-- ==== Sys2Proof/Word.lean ====
section
/-! DEFINITION. The words of the part: port words, timestamps, tags and the two bit sets that software reads and writes whole. -/

namespace Sys2Proof

/-- A word on a host port line: 16 bits (R171). -/
abbrev Word := BitVec 16

/-- A reading of the 32-bit microsecond counter (R144). -/
abbrev Time := BitVec 32

/-- The 4-bit label a host puts in a command header (R155). -/
abbrev Tag := BitVec 4

/-- A set of event flags, bits 10 to 0 of Table 11-3. -/
abbrev FlagSet := BitVec 11

/-- A set of trip causes, bits 11 to 0 of Table 11-3. -/
abbrev CauseSet := BitVec 12

/-- A channel number, 0 to 31 (R2). -/
abbrev Channel := Fin 32

/-- The number of an external, claimable channel, 0 to 23 (R2). -/
abbrev ExtChannel := Fin 24

/-- A sequence id, 0 to 15 (R35). -/
abbrev SeqId := Fin 16

/-- A monitor number, 0 to 7 (R109). -/
abbrev MonId := Fin 8

/-- A trigger source number, 0 to 7 (R76). -/
abbrev SourceId := Fin 8

end Sys2Proof
end

