-- ==== Sys2Proof/Config.lean ====
section
/-! DEFINITION. What the part fixes as constants, and the two free values of the model. -/

namespace Sys2Proof.Config

/-- The vendor code that IDENT returns (Table 11-4). -/
def vendorCode : Word := 0x6A71

/-- The part number that IDENT returns (R164). -/
def partNumber : Word := 2432

/-- The revision that IDENT returns: 1 for the parts the manual describes (R164). -/
def revision : Word := 1

/-- The most records a result queue holds (R94). -/
def queueCapacity : Nat := 64

/-- The most entries the prompt queue holds (R57). -/
def promptCapacity : Nat := 8

/-- The most prompt entries of one port (R57). -/
def promptQuota : Nat := 4

/-- The most sequences a port may hold (R42). -/
def sequenceQuota : Nat := 12

/-- The entries of the step store (R34). -/
def stepStore : Nat := 128

/-- The most step store entries of one port (R34). -/
def stepQuota : Nat := 96

/-- The length of the consent window in microseconds: 250 ms (R139). -/
def consentWindow : Time := 250000

/-- The tick count at which a clock check ends without its 8th edge (R150). -/
def tickLimit : Nat := 8191

/-- FREE VALUE. When several of the part's timers fall due at one tick, `duePick k` says which is
taken first, as a number reduced modulo how many are due; `k` is `State.choice`. The manual gives
the outcome of either order and no order (00_scope, "Causes of activity"; assumption 6). -/
opaque duePick : Nat → Nat

/-- FREE VALUE. For an input strictly between the inputs of two adjacent codes, `upperCode p` says
whether the sample is the upper of the two; `p` is the input in codes. The manual gives the codes at
their nominal inputs and beyond the ends of the span, and no accuracy in between (R5, Table 1-3;
assumption 27). -/
opaque upperCode : Rat → Bool

end Sys2Proof.Config
end

