-- ==== Sys2Proof/Syntax.lean ====
section
/-! DEFINITION. The commands of the part: one constructor of `Instr` for each row of spec/opcode_table.json. -/

namespace Sys2Proof

/-- A host port (R153). -/
inductive Port where
  | A
  | B
  deriving DecidableEq, Repr

/-- The level of a line. -/
inductive Level where
  | low
  | high
  deriving DecidableEq, Repr

/-- The levels the part reads from its input lines at the end of a reset (R88, R121, R146, R162).
`selectA` and `selectB` say whether the port's select is active. -/
structure LineLevels where
  trg0 : Level
  trg1 : Level
  trg2 : Level
  trg3 : Level
  tripin : Level
  sync : Level
  selectA : Bool
  selectB : Bool
  deriving DecidableEq, Repr

/-- The commands of the command-code table (Table 11-2). -/
inductive HostCommand where
  | openSession | closeSession | renew | setLease | resetDevice | denyReset
  | status | ident | repeatLast | ackEvents | setAlertMask
  | claim | release | setChannel | getChannel
  | defineSequence | deleteSequence | enable | stop | halt | run | getSequence
  | convertNow | setTrigger | setCadence | startCadence | stopCadence
  | readResults | flush | mark | setWatermark | readSnapshot
  | setMonitor | monitorOn | monitorOff | getMonitor
  | tripAck | forceTrip | tripStatus
  | readTime | readSync | checkClock | readClockCheck
  deriving DecidableEq, Repr

/-- The rows of the opcode table. A host command carries the port, the tag and the argument words
as they stand in the frame (R155), so that the argument check (R159) is the part's, not the
caller's (assumption 1). -/
inductive Instr where
  -- resets and the trim load
  | powerOn (tpol : Level) (lines : LineLevels)
  | pinReset (tpol : Level)
  | endOfTrimLoad
  -- frames that carry no known command
  | frameError (x : Port) (words : List Word) (bits : BitVec 4)
  | unknownCommand (x : Port) (code : BitVec 7) (tag : Tag) (args : List Word)
  | discardedFrameEnd (x : Port)
  -- host commands
  | openSession (x : Port) (tag : Tag) (args : List Word)
  | closeSession (x : Port) (tag : Tag) (args : List Word)
  | renew (x : Port) (tag : Tag) (args : List Word)
  | setLease (x : Port) (tag : Tag) (args : List Word)
  | resetDevice (x : Port) (tag : Tag) (args : List Word)
  | denyReset (x : Port) (tag : Tag) (args : List Word)
  | status (x : Port) (tag : Tag) (args : List Word)
  | ident (x : Port) (tag : Tag) (args : List Word)
  | repeatLast (x : Port) (tag : Tag) (args : List Word)
  | ackEvents (x : Port) (tag : Tag) (args : List Word)
  | setAlertMask (x : Port) (tag : Tag) (args : List Word)
  | claim (x : Port) (tag : Tag) (args : List Word)
  | release (x : Port) (tag : Tag) (args : List Word)
  | setChannel (x : Port) (tag : Tag) (args : List Word)
  | getChannel (x : Port) (tag : Tag) (args : List Word)
  | defineSequence (x : Port) (tag : Tag) (args : List Word)
  | deleteSequence (x : Port) (tag : Tag) (args : List Word)
  | enable (x : Port) (tag : Tag) (args : List Word)
  | stop (x : Port) (tag : Tag) (args : List Word)
  | halt (x : Port) (tag : Tag) (args : List Word)
  | run (x : Port) (tag : Tag) (args : List Word)
  | getSequence (x : Port) (tag : Tag) (args : List Word)
  | convertNow (x : Port) (tag : Tag) (args : List Word)
  | setTrigger (x : Port) (tag : Tag) (args : List Word)
  | setCadence (x : Port) (tag : Tag) (args : List Word)
  | startCadence (x : Port) (tag : Tag) (args : List Word)
  | stopCadence (x : Port) (tag : Tag) (args : List Word)
  | readResults (x : Port) (tag : Tag) (args : List Word)
  | flush (x : Port) (tag : Tag) (args : List Word)
  | mark (x : Port) (tag : Tag) (args : List Word)
  | setWatermark (x : Port) (tag : Tag) (args : List Word)
  | readSnapshot (x : Port) (tag : Tag) (args : List Word)
  | setMonitor (x : Port) (tag : Tag) (args : List Word)
  | monitorOn (x : Port) (tag : Tag) (args : List Word)
  | monitorOff (x : Port) (tag : Tag) (args : List Word)
  | getMonitor (x : Port) (tag : Tag) (args : List Word)
  | tripAck (x : Port) (tag : Tag) (args : List Word)
  | forceTrip (x : Port) (tag : Tag) (args : List Word)
  | tripStatus (x : Port) (tag : Tag) (args : List Word)
  | readTime (x : Port) (tag : Tag) (args : List Word)
  | readSync (x : Port) (tag : Tag) (args : List Word)
  | checkClock (x : Port) (tag : Tag) (args : List Word)
  | readClockCheck (x : Port) (tag : Tag) (args : List Word)
  -- lines
  | lineTransition (n : Fin 4) (level : Level)
  | cadenceExpiry (n : Fin 4)
  | tripinChange (level : Level)
  | syncEdge (level : Level)
  | refclkEdge
  -- the clock check, the converter and the lease and consent timers
  | checkTickCountLimit
  | settleExpiry
  | sampleCompletion (raw : Word)
  | leaseWarning (x : Port)
  | leaseExpiry (x : Port)
  | consentWindowExpiry
  -- the start of a frame and the end of a pin reset
  | frameBegin (x : Port)
  | resetnRelease (lines : LineLevels)
  deriving DecidableEq, Repr

end Sys2Proof
end

