-- ==== Sys2Proof/Machine/Table.lean ====
section
/-! DEFINITION. Tables of fixed size and pairs kept for each port, with the lists of their indexes. -/

namespace Sys2Proof.Machine

/-- The port that is not `x` (00_scope, Conventions). -/
def otherPort : Port → Port
  | .A => .B
  | .B => .A

/-- The level that is not `l`. -/
def flipLevel : Level → Level
  | .low => .high
  | .high => .low

/-- One value for each host port. -/
structure PerPort (α : Type) where
  a : α
  b : α
  deriving DecidableEq, Repr

/-- The value held for port `x`. -/
def PerPort.get {α : Type} (p : PerPort α) : Port → α
  | .A => p.a
  | .B => p.b

/-- `p` with the value of port `x` replaced. -/
def PerPort.set {α : Type} (p : PerPort α) (x : Port) (v : α) : PerPort α :=
  match x with
  | .A => { p with a := v }
  | .B => { p with b := v }

/-- Entry `i` of a table. -/
def tget {α : Type} {n : Nat} (t : Vector α n) (i : Fin n) : α := t[i]

/-- A table with entry `i` replaced. -/
def tset {α : Type} {n : Nat} (t : Vector α n) (i : Fin n) (v : α) : Vector α n := t.set i v

/-- A table with every entry rewritten from its index and its old value. -/
def tmap {α : Type} {n : Nat} (t : Vector α n) (f : Fin n → α → α) : Vector α n :=
  Vector.ofFn fun i => f i (tget t i)

/-- The sequence ids in ascending order. -/
def allSeqs : List SeqId := [0, 1, 2, 3, 4, 5, 6, 7, 8, 9, 10, 11, 12, 13, 14, 15]

/-- The numbers of the eight monitors, and of the eight sources, in ascending order. -/
def allEights : List (Fin 8) := [0, 1, 2, 3, 4, 5, 6, 7]

/-- The numbers of the four lines, and of the four cadence timers. -/
def allFours : List (Fin 4) := [0, 1, 2, 3]

end Sys2Proof.Machine
end

