-- ==== Sys2Proof/Machine/Frame.lean ====
section
/-! DEFINITION. The CRC-16 of frames, responses and the trim store, the header words and the frame check (R155 to R157, R160). -/

namespace Sys2Proof.Machine

/-- One bit into the CRC-16 register: the top bit is combined with the bit by exclusive-or, the
register shifts left, and if the combination was 1 it is combined with 0x1021 (R156). -/
def crcBit (r : Word) (b : Bool) : Word :=
  if r.msb != b then (r <<< 1) ^^^ 0x1021 else r <<< 1

/-- The bits of a word, most significant first. -/
def wordBits (w : Word) : List Bool :=
  [15, 14, 13, 12, 11, 10, 9, 8, 7, 6, 5, 4, 3, 2, 1, 0].map fun i => w.getLsbD i

/-- The CRC-16 of a list of words: initial value 0xFFFF, polynomial 0x1021 (R156, R19). -/
def crc16 (ws : List Word) : Word :=
  ws.foldl (fun r w => (wordBits w).foldl crcBit r) 0xFFFF

/-- The command header: code, tag, argument count (Table 11-1). -/
def commandHeader (code : BitVec 7) (tag : Tag) (n : BitVec 5) : Word := code ++ tag ++ n

/-- The code of a command header, bits 15 to 9. -/
def headerCode (h : Word) : BitVec 7 := h.extractLsb' 9 7

/-- The tag of a command header, bits 8 to 5. -/
def headerTag (h : Word) : Tag := h.extractLsb' 5 4

/-- The argument count of a command header, bits 4 to 0. -/
def headerCount (h : Word) : BitVec 5 := h.extractLsb' 0 5

/-- The words of a command frame: header, arguments, CRC (R155). -/
def commandFrame (code : BitVec 7) (tag : Tag) (args : List Word) : List Word :=
  let body := commandHeader code tag (BitVec.ofNat 5 args.length) :: args
  body ++ [crc16 body]

/-- What a frame that passes the frame check carries. -/
structure Frame where
  code : BitVec 7
  tag : Tag
  args : List Word
  deriving DecidableEq, Repr

/-- The frame check of R157 over the whole words received and the number of bits over: no partial
word, at least 2 words and n + 2 of them, and the word after the arguments equal to the CRC-16 of
the words before it. Words beyond are filler and are ignored (R155). -/
def frameCheck (words : List Word) (bits : BitVec 4) : Option Frame :=
  match words with
  | [] => none
  | h :: rest =>
    let n := (headerCount h).toNat
    let args := rest.take n
    if bits = 0 ∧ n + 1 ≤ rest.length ∧ rest[n]? = some (crc16 (h :: args)) then
      some ⟨headerCode h, headerTag h, args⟩
    else none

/-- The tag of a FRAME_ERROR: the received header's when word 0 was received whole, else 0 (R157). -/
def frameErrorTag (words : List Word) : Tag :=
  match words with
  | [] => 0
  | h :: _ => headerTag h

/-- The code of each command (Table 11-2). -/
def commandCode : HostCommand → BitVec 7
  | .openSession => 0x01 | .closeSession => 0x02 | .renew => 0x03 | .setLease => 0x04
  | .resetDevice => 0x05 | .denyReset => 0x06
  | .status => 0x10 | .ident => 0x11 | .repeatLast => 0x12 | .ackEvents => 0x13
  | .setAlertMask => 0x14 | .claim => 0x18 | .release => 0x19
  | .setChannel => 0x20 | .getChannel => 0x21
  | .defineSequence => 0x28 | .deleteSequence => 0x29 | .enable => 0x2A | .stop => 0x2B
  | .halt => 0x2C | .run => 0x2D | .getSequence => 0x2E | .convertNow => 0x30
  | .setTrigger => 0x38 | .setCadence => 0x39 | .startCadence => 0x3A | .stopCadence => 0x3B
  | .readResults => 0x40 | .flush => 0x41 | .mark => 0x42 | .setWatermark => 0x43
  | .readSnapshot => 0x44
  | .setMonitor => 0x48 | .monitorOn => 0x49 | .monitorOff => 0x4A | .getMonitor => 0x4B
  | .tripAck => 0x50 | .forceTrip => 0x51 | .tripStatus => 0x52
  | .readTime => 0x58 | .readSync => 0x59 | .checkClock => 0x5A | .readClockCheck => 0x5B

/-- Every command, in the order of Table 11-2. -/
def allCommands : List HostCommand :=
  [.openSession, .closeSession, .renew, .setLease, .resetDevice, .denyReset,
   .status, .ident, .repeatLast, .ackEvents, .setAlertMask, .claim, .release,
   .setChannel, .getChannel, .defineSequence, .deleteSequence, .enable, .stop, .halt, .run,
   .getSequence, .convertNow, .setTrigger, .setCadence, .startCadence, .stopCadence,
   .readResults, .flush, .mark, .setWatermark, .readSnapshot,
   .setMonitor, .monitorOn, .monitorOff, .getMonitor, .tripAck, .forceTrip, .tripStatus,
   .readTime, .readSync, .checkClock, .readClockCheck]

/-- The command a code names, if it is one of Table 11-2 (R158, check 2). -/
def commandOfCode (code : BitVec 7) : Option HostCommand :=
  allCommands.find? fun c => commandCode c == code

end Sys2Proof.Machine
end

