-- ==== Sys2Proof/WellFormed.lean ====
section
/-! DEFINITION. Which terms of `Instr` spell an event the part can meet. -/

namespace Sys2Proof

open Sys2Proof.Machine

/-- A command frame has at most 31 argument words: the count has 5 bits (R155). -/
def argsFit (args : List Word) : Bool := args.length ≤ 31

/-- A term is well formed when it is an event of the row it names: a host command has at most 31
argument words, an unknown command's code is outside Table 11-2 (R158), and a frame error's words
do fail the frame check (R157). -/
def Instr.wf : Instr → Bool
  | .frameError _ words bits => (frameCheck words bits).isNone
  | .unknownCommand _ code _ args => (commandOfCode code).isNone && argsFit args
  | .openSession _ _ args => argsFit args
  | .closeSession _ _ args => argsFit args
  | .renew _ _ args => argsFit args
  | .setLease _ _ args => argsFit args
  | .resetDevice _ _ args => argsFit args
  | .denyReset _ _ args => argsFit args
  | .status _ _ args => argsFit args
  | .ident _ _ args => argsFit args
  | .repeatLast _ _ args => argsFit args
  | .ackEvents _ _ args => argsFit args
  | .setAlertMask _ _ args => argsFit args
  | .claim _ _ args => argsFit args
  | .release _ _ args => argsFit args
  | .setChannel _ _ args => argsFit args
  | .getChannel _ _ args => argsFit args
  | .defineSequence _ _ args => argsFit args
  | .deleteSequence _ _ args => argsFit args
  | .enable _ _ args => argsFit args
  | .stop _ _ args => argsFit args
  | .halt _ _ args => argsFit args
  | .run _ _ args => argsFit args
  | .getSequence _ _ args => argsFit args
  | .convertNow _ _ args => argsFit args
  | .setTrigger _ _ args => argsFit args
  | .setCadence _ _ args => argsFit args
  | .startCadence _ _ args => argsFit args
  | .stopCadence _ _ args => argsFit args
  | .readResults _ _ args => argsFit args
  | .flush _ _ args => argsFit args
  | .mark _ _ args => argsFit args
  | .setWatermark _ _ args => argsFit args
  | .readSnapshot _ _ args => argsFit args
  | .setMonitor _ _ args => argsFit args
  | .monitorOn _ _ args => argsFit args
  | .monitorOff _ _ args => argsFit args
  | .getMonitor _ _ args => argsFit args
  | .tripAck _ _ args => argsFit args
  | .forceTrip _ _ args => argsFit args
  | .tripStatus _ _ args => argsFit args
  | .readTime _ _ args => argsFit args
  | .readSync _ _ args => argsFit args
  | .checkClock _ _ args => argsFit args
  | .readClockCheck _ _ args => argsFit args
  | .powerOn _ _ => true
  | .pinReset _ => true
  | .endOfTrimLoad => true
  | .discardedFrameEnd _ => true
  | .lineTransition _ _ => true
  | .cadenceExpiry _ => true
  | .tripinChange _ => true
  | .syncEdge _ => true
  | .refclkEdge => true
  | .checkTickCountLimit => true
  | .settleExpiry => true
  | .sampleCompletion _ => true
  | .leaseWarning _ => true
  | .leaseExpiry _ => true
  | .consentWindowExpiry => true
  | .frameBegin _ => true
  | .resetnRelease _ => true

end Sys2Proof
end

