-- ==== Sys2Proof/Decode.lean ====
section
/-! DEFINITION. From words to commands. No row of the opcode table gives bits, so `decodeTableWord` answers none; a frame's words are read by `decodeFrame`, and `encodeFrame` writes them. -/

namespace Sys2Proof

open Sys2Proof.Machine

/-- The command a table word spells. spec/opcode_table.json gives no row any bits (98_reader:
"n_rows_with_fixed": 0), so no word spells a command (assumption 17). -/
def decodeTableWord (_nbits _w : Nat) : Option Instr := none

/-- The row of a known command with its port, tag and arguments. -/
def commandRow (x : Port) (c : HostCommand) (tag : Tag) (args : List Word) : Instr :=
  match c with
  | .openSession => .openSession x tag args
  | .closeSession => .closeSession x tag args
  | .renew => .renew x tag args
  | .setLease => .setLease x tag args
  | .resetDevice => .resetDevice x tag args
  | .denyReset => .denyReset x tag args
  | .status => .status x tag args
  | .ident => .ident x tag args
  | .repeatLast => .repeatLast x tag args
  | .ackEvents => .ackEvents x tag args
  | .setAlertMask => .setAlertMask x tag args
  | .claim => .claim x tag args
  | .release => .release x tag args
  | .setChannel => .setChannel x tag args
  | .getChannel => .getChannel x tag args
  | .defineSequence => .defineSequence x tag args
  | .deleteSequence => .deleteSequence x tag args
  | .enable => .enable x tag args
  | .stop => .stop x tag args
  | .halt => .halt x tag args
  | .run => .run x tag args
  | .getSequence => .getSequence x tag args
  | .convertNow => .convertNow x tag args
  | .setTrigger => .setTrigger x tag args
  | .setCadence => .setCadence x tag args
  | .startCadence => .startCadence x tag args
  | .stopCadence => .stopCadence x tag args
  | .readResults => .readResults x tag args
  | .flush => .flush x tag args
  | .mark => .mark x tag args
  | .setWatermark => .setWatermark x tag args
  | .readSnapshot => .readSnapshot x tag args
  | .setMonitor => .setMonitor x tag args
  | .monitorOn => .monitorOn x tag args
  | .monitorOff => .monitorOff x tag args
  | .getMonitor => .getMonitor x tag args
  | .tripAck => .tripAck x tag args
  | .forceTrip => .forceTrip x tag args
  | .tripStatus => .tripStatus x tag args
  | .readTime => .readTime x tag args
  | .readSync => .readSync x tag args
  | .checkClock => .checkClock x tag args
  | .readClockCheck => .readClockCheck x tag args

/-- The row that a frame's end on port `x` is, from the whole words received and the bits over:
the frame check (R157), then whether the command is known (R158, checks 1 and 2). Total on any
words. -/
def decodeFrame (x : Port) (words : List Word) (bits : BitVec 4) : Instr :=
  match frameCheck words bits with
  | none => .frameError x words bits
  | some f =>
    match commandOfCode f.code with
    | none => .unknownCommand x f.code f.tag f.args
    | some c => commandRow x c f.tag f.args

/-- The words a host sends for a command (R155). -/
def encodeFrame (c : HostCommand) (tag : Tag) (args : List Word) : List Word :=
  commandFrame (commandCode c) tag args

end Sys2Proof
end

