-- ==== Sys2Proof/Machine/Types.lean ====
section
/-! DEFINITION. The state each block of the part holds, as plain data. -/

namespace Sys2Proof.Machine

/-! ### Channel front end (CFE) -/

/-- Input ranges (R5). -/
inductive Range where
  | bipolar10V
  | bipolar5V
  | unipolar10V
  | unipolar2V5
  deriving DecidableEq, Repr

/-- Input modes (R4). -/
inductive InputMode where
  | single
  | diff
  deriving DecidableEq, Repr

/-- A channel descriptor (R4). `settle` is in microseconds, 0 to 1023; `owner` is the copy of the
claim table's owner, `none` for NONE. -/
structure Descriptor where
  range : Range
  mode : InputMode
  settle : BitVec 10
  owner : Option Port
  deriving DecidableEq, Repr

/-! ### Converter (CNV) -/

/-- The sample counts a measurement may have (R17). -/
inductive SampleCount where
  | n1
  | n2
  | n4
  | n8
  | n16
  deriving DecidableEq, Repr

/-- The number N of a sample count. -/
def SampleCount.toNat : SampleCount → Nat
  | .n1 => 1
  | .n2 => 2
  | .n4 => 4
  | .n8 => 8
  | .n16 => 16

/-- A step of a sequence, by sequence and index (R33). -/
structure StepRef where
  seq : SeqId
  index : Nat
  deriving DecidableEq, Repr

/-- The measurement in flight (R17). `step` is `none` for a CONVERT_NOW measurement. -/
structure Measurement where
  port : Port
  step : Option StepRef
  channel : Channel
  samples : SampleCount
  range : Range
  mode : InputMode
  settle : BitVec 10
  cfgChanged : Bool
  taken : Nat
  sum : Int
  clip : Bool
  cutPending : Bool
  deriving DecidableEq, Repr

/-- Converter states (Figure 2-1). SETTLING holds the settle timer's expiry, SAMPLING the timestamp
taken on entry (R22, R23). -/
inductive ConvState where
  | starting
  | idle
  | settling (m : Measurement) (expiry : Time)
  | sampling (m : Measurement) (stamp : Time)
  deriving DecidableEq, Repr

/-- One trim entry: gain, meaning gain/32768, and signed offset (Table 2-1). -/
structure TrimEntry where
  gain : Word
  offset : Word
  deriving DecidableEq, Repr

/-- TRIM_VALID or TRIM_FAULT (R17). -/
inductive TrimState where
  | trimValid
  | trimFault
  deriving DecidableEq, Repr

/-- The converter. `store` is the nonvolatile store: eight trim words and the check word (R19). -/
structure Converter where
  state : ConvState
  trim : Vector TrimEntry 4
  trimState : TrimState
  store : Vector Word 9
  deriving DecidableEq, Repr

/-! ### Sequence manager (SEQ) -/

/-- A step (R33). -/
structure SeqStep where
  channel : Channel
  samples : SampleCount
  quiet : Bool
  deriving DecidableEq, Repr

/-- Sequence kinds; TRIGGERED holds its source and its latency budget in microseconds, 0 for none
(R35). -/
inductive SeqKind where
  | triggered (source : SourceId) (budget : Word)
  | keyed
  | continuous
  deriving DecidableEq, Repr

/-- The states of a sequence that is not FREE (Figure 3-1). -/
inductive SeqState where
  | defined
  | armed
  | pending
  | running
  | stopping
  deriving DecidableEq, Repr

/-- A sequence (R35). -/
structure Sequence where
  owner : Port
  kind : SeqKind
  steps : List SeqStep
  state : SeqState
  pass : BitVec 8
  index : Nat
  restarts : Nat
  misses : Nat
  deriving DecidableEq, Repr

/-- The sequence manager: the table (`none` is FREE) and the step store counts (R34, R35). -/
structure SeqUnit where
  table : Vector (Option Sequence) 16
  stepTotal : Nat
  stepCount : PerPort Nat
  deriving DecidableEq, Repr

/-! ### Conversion scheduler (SCH) -/

/-- Scheduling classes (R55). -/
inductive WorkClass where
  | urgent
  | prompt
  | background
  deriving DecidableEq, Repr

/-- What a service record names beside the port: a step of a sequence or an immediate channel
(R53). -/
inductive WorkItem where
  | step (r : StepRef)
  | immediate (c : Channel)
  deriving DecidableEq, Repr

/-- The service record (R53). `shielded` is the record's "protected". -/
structure Service where
  cls : WorkClass
  port : Port
  item : WorkItem
  shielded : Bool
  cutOrdered : Bool
  deriving DecidableEq, Repr

/-- The converter view; BUSY holds the service record (R53). -/
inductive View where
  | notReady
  | free
  | busy (r : Service)
  deriving DecidableEq, Repr

/-- An entry of the urgent queue (R56). -/
structure UrgentEntry where
  seq : SeqId
  arrival : Time
  deadline : Option Time
  deriving DecidableEq, Repr

/-- What a prompt entry asks for (R57). -/
inductive PromptItem where
  | sequence (id : SeqId)
  | immediate (c : Channel) (n : SampleCount)
  deriving DecidableEq, Repr

/-- An entry of the prompt queue, and the active prompt pass (R53, R57). -/
structure PromptEntry where
  port : Port
  item : PromptItem
  deriving DecidableEq, Repr

/-- The judgement of an urgent pass (R69); `undecided` is OPEN. -/
inductive PassJudgement where
  | undecided
  | onTime
  | late
  deriving DecidableEq, Repr

/-- The active urgent pass (R53). -/
structure UrgentPass where
  seq : SeqId
  owner : Port
  arrival : Time
  deadline : Option Time
  judgement : PassJudgement
  deriving DecidableEq, Repr

/-- The conversion scheduler (R53). -/
structure Scheduler where
  view : View
  urgent : List UrgentEntry
  prompt : List PromptEntry
  activeUrgent : Option UrgentPass
  activePrompt : Option PromptEntry
  nextPort : Port
  lastServed : PerPort SeqId
  deriving DecidableEq, Repr

/-! ### Trigger unit (TRG) -/

/-- The edge setting of a line source (R76). -/
inductive EdgeSetting where
  | rising
  | falling
  | both
  deriving DecidableEq, Repr

/-- What a line source holds beside owner and binding (R76). -/
structure LineSource where
  edge : EdgeSetting
  level : Level
  deriving DecidableEq, Repr

/-- The cadence state; RUNNING holds the next expiry (R76). -/
inductive TimerRun where
  | stopped
  | running (next : Time)
  deriving DecidableEq, Repr

/-- What a cadence source holds beside owner and binding (R76). -/
structure CadenceTimer where
  period : Time
  run : TimerRun
  deriving DecidableEq, Repr

/-- The trigger unit: owner copies and bindings of the eight sources, the four lines (sources 0 to
3) and the four cadence timers (sources 4 to 7) (R76). -/
structure TriggerUnit where
  owner : Vector (Option Port) 8
  bound : Vector (Option SeqId) 8
  line : Vector LineSource 4
  timer : Vector CadenceTimer 4
  deriving DecidableEq, Repr

/-! ### Result unit (RES) -/

/-- The sequence, step and pass of a record that has a sequence (R89). -/
structure PassRef where
  seq : SeqId
  index : Nat
  pass : BitVec 8
  deriving DecidableEq, Repr

/-- The event a notice reports, with its argument and its sequence and pass (R91). -/
inductive NoticeBody where
  | mark (value : Word)
  | seqHalted (seq : SeqId) (pass : BitVec 8)
  | triggersMissed (seq : SeqId) (pass : BitVec 8) (count : Nat)
  | trip (causes : CauseSet)
  | tripCleared
  | leaseLapsed
  deriving DecidableEq, Repr

/-- A result record (R89). -/
inductive Record where
  | measurement (step : Option PassRef) (channel : Channel) (value : Word) (stamp : Time)
      (late clipped cfgChanged untrimmed : Bool) (restarts gap : Nat)
  | notice (body : NoticeBody) (stamp : Time) (gap : Nat)
  deriving DecidableEq, Repr

/-- A result queue (R94). -/
structure ResultQueue where
  records : List Record
  delivered : Nat
  gap : Nat
  watermark : Nat
  deriving DecidableEq, Repr

/-- What a valid snapshot entry holds (R103). `seq` is the producing sequence, if any. -/
structure SnapshotValue where
  value : Word
  stamp : Time
  port : Port
  seq : Option SeqId
  clipped : Bool
  untrimmed : Bool
  deriving DecidableEq, Repr

/-- A snapshot entry: valid exactly when `held` is present (R103). -/
structure SnapshotEntry where
  generation : BitVec 8
  held : Option SnapshotValue
  deriving DecidableEq, Repr

/-- The result unit. -/
structure ResultUnit where
  queue : PerPort ResultQueue
  snapshot : Vector SnapshotEntry 32
  deriving DecidableEq, Repr

/-! ### Monitor unit (MON) -/

/-- Monitor actions (R109). -/
inductive MonAction where
  | alert
  | trip
  deriving DecidableEq, Repr

/-- Monitor states (Figure 7-1). -/
inductive MonState where
  | off
  | within
  | counting
  | violated
  deriving DecidableEq, Repr

/-- A limit monitor (R109). `low` and `high` are signed codes. -/
structure Monitor where
  owner : Option Port
  channel : Channel
  low : Word
  high : Word
  hysteresis : Word
  count : Nat
  action : MonAction
  state : MonState
  outside : Nat
  deriving DecidableEq, Repr

/-! ### Trip latch (TRP) -/

/-- Latch states (R119). -/
inductive LatchState where
  | armed
  | tripped
  deriving DecidableEq, Repr

/-- The level of TRIPIN as last taken (R119). -/
inductive TripinLevel where
  | active
  | inactive
  deriving DecidableEq, Repr

/-- The trip latch and the TRIP line (R119). -/
structure TripLatch where
  state : LatchState
  causes : CauseSet
  tripin : TripinLevel
  polarity : Level
  line : Level
  deriving DecidableEq, Repr

/-! ### Session unit (SES) -/

/-- Renewal policies (R126). -/
inductive RenewPolicy where
  | renewAny
  | renewExplicit
  deriving DecidableEq, Repr

/-- The lease of an OPEN session (R126). `interval` is in ms; `warning` is `none` once its expiry
has been taken. -/
structure Lease where
  interval : Word
  policy : RenewPolicy
  lastRenewal : Time
  warning : Option Time
  expiry : Time
  deriving DecidableEq, Repr

/-- Session states (Figure 8-1); OPEN holds the lease. -/
inductive Session where
  | closed
  | opened (lease : Lease)
  | lapsed
  deriving DecidableEq, Repr

/-- The claim table (R135). -/
structure ClaimTable where
  channel : Vector (Option Port) 24
  monitor : Vector (Option Port) 8
  source : Vector (Option Port) 8
  deriving DecidableEq, Repr

/-- The consent state outside NONE: who asked, the window's expiry and whether the requester mark
is OPEN (R139). -/
structure Consent where
  asker : Port
  expiry : Time
  askedOpen : Bool
  deriving DecidableEq, Repr

/-- The session unit. -/
structure SessionUnit where
  session : PerPort Session
  claims : ClaimTable
  consent : Option Consent
  deriving DecidableEq, Repr

/-! ### Timebase (TMB) -/

/-- Verdicts of a clock check (R148). -/
inductive ClockVerdict where
  | none
  | good
  | oscSlow
  | oscFast
  | noReference
  deriving DecidableEq, Repr

/-- The phase of a running check; COUNTING holds the periods counted (R148). -/
inductive CheckPhase where
  | awaitingEdge
  | counting (periods : Nat)
  deriving DecidableEq, Repr

/-- A clock check in progress (R148). -/
structure RunningCheck where
  phase : CheckPhase
  marks : PerPort Bool
  ticks : Nat
  deriving DecidableEq, Repr

/-- The timebase; `check` is `none` for IDLE, `subTick` counts the oscillator ticks since the
counter last rose (R144, R146, R148). -/
structure Timebase where
  counter : Time
  subTick : BitVec 4
  syncCapture : Time
  syncCount : Word
  syncLevel : Level
  check : Option RunningCheck
  lastVerdict : ClockVerdict
  lastCount : Nat
  lastTime : Time
  deriving DecidableEq, Repr

/-! ### Host ports (HPA, HPB) -/

/-- Status codes (Table 10-1). -/
inductive Status where
  | ok
  | pending
  | resetDone
  | frameError
  | unknown
  | notReady
  | noSession
  | badArgument
  | notOwner
  | owned
  | foreign
  | inUse
  | full
  | wrongState
  | badAck
  deriving DecidableEq, Repr

/-- A response (R153, R160). -/
structure Response where
  status : Status
  tag : Tag
  payload : List Word
  deriving DecidableEq, Repr

/-- The frame receiver (R153). RECEIVING holds the whole words received so far. -/
inductive Receiver where
  | idle
  | receiving (words : List Word)
  | discarding
  deriving DecidableEq, Repr

/-- What data-out carries: nothing while select is inactive, the response that was pending when the
frame began, or filler in a frame that a reset abandoned (R154, R162). -/
inductive DataOut where
  | undriven
  | response (r : Response)
  | filler
  deriving DecidableEq, Repr

/-- A host port (R153). `alert` is true while the ALERT line is active. -/
structure HostPort where
  receiver : Receiver
  dataOut : DataOut
  response : Response
  flags : FlagSet
  mask : FlagSet
  alert : Bool
  deriving DecidableEq, Repr

end Sys2Proof.Machine
end

