-- ==== Sys2Proof/Machine/Defaults.lean ====
section
/-! DEFINITION. The values each block takes at a reset, and the fixed descriptors of the internal channels. -/

namespace Sys2Proof.Machine

/-- The default external descriptor: BIPOLAR_10V, SINGLE, 10 us, owner NONE (R4). -/
def defaultDescriptor : Descriptor := ⟨.bipolar10V, .single, 10, none⟩

/-- The external descriptors after every reset (R16). -/
def cfeReset : Vector Descriptor 24 := Vector.replicate 24 defaultDescriptor

/-- The descriptors of the internal channels 24 to 31 (R3, Table 1-1). -/
def internalDescriptor (c : Fin 8) : Descriptor :=
  match c with
  | 0 => ⟨.unipolar2V5, .single, 50, none⟩
  | 1 => ⟨.bipolar5V, .single, 10, none⟩
  | 2 => ⟨.unipolar10V, .single, 10, none⟩
  | 3 => ⟨.unipolar10V, .single, 10, none⟩
  | 4 => ⟨.bipolar5V, .single, 10, none⟩
  | 5 => ⟨.unipolar2V5, .single, 10, none⟩
  | 6 => ⟨.unipolar2V5, .single, 10, none⟩
  | 7 => ⟨.bipolar10V, .single, 0, none⟩

/-- Identity trim: gain 32768, offset 0 (R18). -/
def identityTrim : Vector TrimEntry 4 := Vector.replicate 4 ⟨32768, 0⟩

/-- The converter after power-on or a pin reset; the nonvolatile store is kept (R18, R19). -/
def cnvReset (store : Vector Word 9) : Converter := ⟨.starting, identityTrim, .trimFault, store⟩

/-- DESIGN CHOICE: the store of a part calibrated to identity trim, with its matching check word
(assumption 8). -/
def identityStore : Vector Word 9 :=
  #v[32768, 0, 32768, 0, 32768, 0, 32768, 0,
     crc16 [32768, 0, 32768, 0, 32768, 0, 32768, 0]]

/-- The sequence manager after every reset (R34, R36). -/
def seqReset : SeqUnit := ⟨Vector.replicate 16 none, 0, ⟨0, 0⟩⟩

/-- The scheduler after a reset that leaves the view `v` (R54). -/
def schReset (v : View) : Scheduler := ⟨v, [], [], none, none, .A, ⟨15, 15⟩⟩

/-- The default cadence timer: 1000 us, STOPPED (R76). -/
def defaultTimer : CadenceTimer := ⟨1000, .stopped⟩

/-- The trigger unit after a reset, with the reference levels of the four lines (R88). -/
def trgReset (levels : Vector Level 4) : TriggerUnit :=
  ⟨Vector.replicate 8 none, Vector.replicate 8 none,
   Vector.ofFn fun n => ⟨.rising, tget levels n⟩, Vector.replicate 4 defaultTimer⟩

/-- An empty result queue: delivered 0, gap counter 0, watermark 16 (R94). -/
def queueReset : ResultQueue := ⟨[], 0, 0, 16⟩

/-- The result unit after every reset (R94, R103). -/
def resReset : ResultUnit := ⟨⟨queueReset, queueReset⟩, Vector.replicate 32 ⟨0, none⟩⟩

/-- A released monitor (R109). -/
def releasedMonitor : Monitor := ⟨none, 0, 0, 0, 0, 0, .alert, .off, 0⟩

/-- The monitors after every reset (R109). -/
def monReset : Vector Monitor 8 := Vector.replicate 8 releasedMonitor

/-- The stop level of the TRIP line under a polarity (Table 7-2). -/
def stopLevel (polarity : Level) : Level := polarity

/-- The run level of the TRIP line under a polarity (Table 7-2). -/
def runLevel (polarity : Level) : Level := flipLevel polarity

/-- The bit of STARTUP in a cause set (Table 11-3). -/
def startupBit : CauseSet := 1

/-- The session unit after every reset (R126, R135, R139). -/
def sesReset : SessionUnit :=
  ⟨⟨.closed, .closed⟩,
   ⟨Vector.replicate 24 none, Vector.replicate 8 none, Vector.replicate 8 none⟩, none⟩

/-- The timebase after power-on or a pin reset, with the SYNC reference level (R144, R146, R148). -/
def tmbReset (sync : Level) : Timebase := ⟨0, 0, 0, 0, sync, none, .none, 0, 0⟩

/-- The pending response after power-on or a pin reset: RESET_DONE, kind POWER (R162). -/
def powerResponse : Response := ⟨.resetDone, 0, [0]⟩

/-- The pending response after a commanded device reset: RESET_DONE, kind COMMANDED (R162). -/
def commandedResponse : Response := ⟨.resetDone, 0, [1]⟩

/-- A host port after power-on or at a pin reset, with select inactive (R153). -/
def hostReset : HostPort := ⟨.idle, .undriven, powerResponse, 0, 0, false⟩

end Sys2Proof.Machine
end

