-- ==== Sys2Proof/Machine/State.lean ====
section
/-! DEFINITION. The state of the part, the reasons a step can stop, and the state after reset. -/

namespace Sys2Proof.Machine

/-- The part's state: one field for each block of Table 0-1, the RESETN line, the model's own
choice counter (assumption 6), and the queue of commands that wait, first in, first out. -/
structure State where
  cfe : Vector Descriptor 24
  cnv : Converter
  seq : SeqUnit
  sch : Scheduler
  trg : TriggerUnit
  res : ResultUnit
  mon : Vector Monitor 8
  trp : TripLatch
  ses : SessionUnit
  tmb : Timebase
  host : PerPort HostPort
  resetActive : Bool
  choice : Nat
  pending : List Instr
  deriving DecidableEq, Repr

/-- Why the machine stops with a fault. No rule of the manual stops the part: whatever it cannot
take it refuses with a status code in a response, so there is no constructor (assumption 19). -/
inductive Fault where
  deriving DecidableEq, Repr

/-- Why a command has no meaning. -/
inductive Refusal where
  /-- Raised by an arm of exec whose command is not modelled yet; no arm raises it. Safe: the
  machine stops. -/
  | notModelled (mnemonic : String)
  deriving DecidableEq, Repr

/-- The part right after power-on: every block at its reset values, the converter in STARTING, the
latch TRIPPED with STARTUP, RESET_DONE pending at both ports, and no command waiting. Line levels
that the manual leaves to the board are those of assumption 7, the trim store that of
assumption 8. -/
def State.reset : State where
  cfe := cfeReset
  cnv := cnvReset identityStore
  seq := seqReset
  sch := schReset .notReady
  trg := trgReset (Vector.replicate 4 .low)
  res := resReset
  mon := monReset
  trp := ⟨.tripped, startupBit, .inactive, .low, stopLevel .low⟩
  ses := sesReset
  tmb := tmbReset .low
  host := ⟨hostReset, hostReset⟩
  resetActive := false
  choice := 0
  pending := []

/-! One setter for each block, so that what an event touches stands in its text. -/

/-- `s` with the external descriptors replaced. -/
def State.setCfe (s : State) (v : Vector Descriptor 24) : State := { s with cfe := v }

/-- `s` with the converter replaced. -/
def State.setCnv (s : State) (v : Converter) : State := { s with cnv := v }

/-- `s` with the sequence manager replaced. -/
def State.setSeq (s : State) (v : SeqUnit) : State := { s with seq := v }

/-- `s` with the scheduler replaced. -/
def State.setSch (s : State) (v : Scheduler) : State := { s with sch := v }

/-- `s` with the trigger unit replaced. -/
def State.setTrg (s : State) (v : TriggerUnit) : State := { s with trg := v }

/-- `s` with the result unit replaced. -/
def State.setRes (s : State) (v : ResultUnit) : State := { s with res := v }

/-- `s` with the monitors replaced. -/
def State.setMon (s : State) (v : Vector Monitor 8) : State := { s with mon := v }

/-- `s` with the trip latch replaced. -/
def State.setTrp (s : State) (v : TripLatch) : State := { s with trp := v }

/-- `s` with the session unit replaced. -/
def State.setSes (s : State) (v : SessionUnit) : State := { s with ses := v }

/-- `s` with the timebase replaced. -/
def State.setTmb (s : State) (v : Timebase) : State := { s with tmb := v }

/-- `s` with the host ports replaced. -/
def State.setHost (s : State) (v : PerPort HostPort) : State := { s with host := v }

/-- `s` with the RESETN line replaced. -/
def State.setResetActive (s : State) (v : Bool) : State := { s with resetActive := v }

/-- `s` with the choice counter replaced. -/
def State.setChoice (s : State) (v : Nat) : State := { s with choice := v }

/-- `s` with the queue of waiting commands replaced. -/
def State.setPending (s : State) (v : List Instr) : State := { s with pending := v }

end Sys2Proof.Machine
end

