-- ==== Sys2Proof/Machine/Operands.lean ====
section
/-! DEFINITION. Argument words read and payload words written: the enumeration codes of Table 11-2 and the layouts of Tables 11-1 and 11-3 to 11-7 (R171). -/

namespace Sys2Proof.Machine

/-! ### Argument words -/

/-- The number below `n` that an argument word carries, if it lies in that range. -/
def numberBelow (n : Nat) (w : Word) : Option (Fin n) :=
  if h : w.toNat < n then some ⟨w.toNat, h⟩ else none

/-- policy (Table 11-2). -/
def policyOf (w : Word) : Option RenewPolicy :=
  if w = 0 then some .renewAny else if w = 1 then some .renewExplicit else none

/-- range (Table 11-2). -/
def rangeOf (w : Word) : Option Range :=
  if w = 0 then some .bipolar10V else if w = 1 then some .bipolar5V
  else if w = 2 then some .unipolar10V else if w = 3 then some .unipolar2V5 else none

/-- mode (Table 11-2). -/
def modeOf (w : Word) : Option InputMode :=
  if w = 0 then some .single else if w = 1 then some .diff else none

/-- edge (Table 11-2). -/
def edgeOf (w : Word) : Option EdgeSetting :=
  if w = 0 then some .rising else if w = 1 then some .falling
  else if w = 2 then some .both else none

/-- action (Table 11-2). -/
def actionOf (w : Word) : Option MonAction :=
  if w = 0 then some .alert else if w = 1 then some .trip else none

/-- The sample count a number names: 1, 2, 4, 8 or 16 (R33). -/
def samplesOf (n : Nat) : Option SampleCount :=
  if n = 1 then some .n1 else if n = 2 then some .n2 else if n = 4 then some .n4
  else if n = 8 then some .n8 else if n = 16 then some .n16 else none

/-- A claimable resource (R135). -/
inductive Resource where
  | channel (c : ExtChannel)
  | monitor (i : MonId)
  | source (n : SourceId)
  deriving DecidableEq, Repr

/-- The resource a class and a number name (R136, Table 11-2). -/
def resourceOf (cls num : Word) : Option Resource :=
  if cls = 0 then (numberBelow 24 num).map .channel
  else if cls = 1 then (numberBelow 8 num).map .monitor
  else if cls = 2 then (numberBelow 8 num).map .source
  else none

/-- A step word: quiet in bit 15, bits 14 and 13 unused, samples in bits 12 to 8, channel in bits
7 to 0 (Table 11-2, note 1). -/
def stepOf (w : Word) : Option SeqStep :=
  if w.extractLsb' 13 2 ≠ 0 then none
  else
    match numberBelow 32 (w.extractLsb' 0 8 |>.setWidth 16),
          samplesOf (w.extractLsb' 8 5).toNat with
    | some c, some n => some ⟨c, n, w.getLsbD 15⟩
    | _, _ => none

/-- The steps that a list of step words names, if every word names one. -/
def stepsOf : List Word → Option (List SeqStep)
  | [] => some []
  | w :: ws =>
    match stepOf w, stepsOf ws with
    | some st, some sts => some (st :: sts)
    | _, _ => none

/-- The kind that the first three arguments of DEFINE_SEQUENCE name: a TRIGGERED source is 0 to 7,
and the other kinds need source and budget 0 (R42). -/
def kindOf (kind source budget : Word) : Option SeqKind :=
  if kind = 0 then (numberBelow 8 source).map fun n => .triggered n budget
  else if kind = 1 then (if source = 0 ∧ budget = 0 then some .keyed else none)
  else if kind = 2 then (if source = 0 ∧ budget = 0 then some .continuous else none)
  else none

/-- The flag set an argument word carries; bits 15 to 11 are unused and must be 0 (R167). -/
def flagSetOf (w : Word) : Option FlagSet :=
  if w.extractLsb' 11 5 = 0 then some (w.extractLsb' 0 11) else none

/-- The cadence timer of a source number 4 to 7 (R76). -/
def timerOf (w : Word) : Option (Fin 4) :=
  if 4 ≤ w.toNat then numberBelow 4 (w - 4) else none

/-! ### Numbers of lines, timers and ports -/

/-- The source number of trigger line n (R76). -/
def lineSource (n : Fin 4) : SourceId := ⟨n.val, by omega⟩

/-- The source number of cadence timer n: CAD0 is source 4 (R76). -/
def timerSource (n : Fin 4) : SourceId := ⟨n.val + 4, by omega⟩

/-! ### Codes in payload words -/

/-- One bit of a payload word. -/
def bit (b : Bool) : BitVec 1 := BitVec.ofBool b

/-- range (Table 11-2). -/
def rangeCode : Range → BitVec 2
  | .bipolar10V => 0 | .bipolar5V => 1 | .unipolar10V => 2 | .unipolar2V5 => 3

/-- mode (Table 11-2). -/
def modeCode : InputMode → BitVec 1
  | .single => 0 | .diff => 1

/-- port (Table 11-2). -/
def portCode : Port → BitVec 2
  | .A => 1 | .B => 2

/-- owner (Table 11-2). -/
def ownerCode : Option Port → BitVec 2
  | none => 0 | some x => portCode x

/-- kind (Table 11-2). -/
def kindCode : SeqKind → BitVec 2
  | .triggered _ _ => 0 | .keyed => 1 | .continuous => 2

/-- action (Table 11-2). -/
def actionCode : MonAction → BitVec 1
  | .alert => 0 | .trip => 1

/-- session state (Table 11-2). -/
def sessionCode : Session → BitVec 2
  | .closed => 0 | .opened _ => 1 | .lapsed => 2

/-- consent state (Table 11-2). -/
def consentCode : Option Consent → BitVec 2
  | none => 0 | some c => portCode c.asker

/-- sequence state of a sequence that is not FREE (Table 11-2). -/
def seqStateCode : SeqState → BitVec 3
  | .defined => 1 | .armed => 2 | .pending => 3 | .running => 4 | .stopping => 5

/-- monitor state (Table 11-2). -/
def monStateCode : MonState → BitVec 2
  | .off => 0 | .within => 1 | .counting => 2 | .violated => 3

/-- verdict (Table 11-2). -/
def verdictCode : ClockVerdict → BitVec 3
  | .none => 0 | .good => 1 | .oscSlow => 2 | .oscFast => 3 | .noReference => 4

/-- Status codes (section 11.2). -/
def statusCode : Status → BitVec 6
  | .ok => 0 | .pending => 1 | .resetDone => 2 | .frameError => 3 | .unknown => 4
  | .notReady => 5 | .noSession => 6 | .badArgument => 7 | .notOwner => 8 | .owned => 9
  | .foreign => 10 | .inUse => 11 | .full => 12 | .wrongState => 13 | .badAck => 14

/-- The high word of a 32-bit quantity, which is sent first (R171). -/
def highWord (t : Time) : Word := t.extractLsb' 16 16

/-- The low word of a 32-bit quantity (R171). -/
def lowWord (t : Time) : Word := t.extractLsb' 0 16

/-- A natural number in a whole word. -/
def numberWord (n : Nat) : Word := BitVec.ofNat 16 n

/-! ### Responses -/

/-- The response header: status, tag, payload length (Table 11-1). -/
def responseHeader (r : Response) : Word :=
  statusCode r.status ++ r.tag ++ BitVec.ofNat 6 r.payload.length

/-- The words of a response: header, payload, CRC (R160). -/
def responseWords (r : Response) : List Word :=
  let body := responseHeader r :: r.payload
  body ++ [crc16 body]

/-- Filler (R171). -/
def fillerWord : Word := 0xFFFF

/-- Word `i` that data-out drives in a frame, `none` while it is not driven: the pending response,
then filler (R154), or filler throughout in a frame a reset abandoned (R162, R171). -/
def dataOutWord (d : DataOut) (i : Nat) : Option Word :=
  match d with
  | .undriven => none
  | .response r => some ((responseWords r).getD i fillerWord)
  | .filler => some fillerWord

/-! ### Payloads -/

/-- GET_CHANNEL word 1 (Table 11-4). -/
def channelWord (absorbed internal : Bool) (c : Channel) (d : Descriptor) : Word :=
  bit absorbed ++ bit internal ++ ownerCode d.owner ++ modeCode d.mode
    ++ (0 : BitVec 1) ++ rangeCode d.range ++ (0 : BitVec 3) ++ BitVec.ofNat 5 c.val

/-- A step word (Table 11-2, note 1). -/
def stepWord (st : SeqStep) : Word :=
  bit st.quiet ++ (0 : BitVec 2) ++ BitVec.ofNat 5 st.samples.toNat
    ++ BitVec.ofNat 8 st.channel.val

/-- The source word of GET_SEQUENCE: 0 for KEYED and CONTINUOUS (R51). -/
def sourceWord : SeqKind → Word
  | .triggered n _ => numberWord n.val
  | .keyed => 0
  | .continuous => 0

/-- The budget word of GET_SEQUENCE: 0 for KEYED and CONTINUOUS (R51). -/
def budgetWord : SeqKind → Word
  | .triggered _ b => b
  | .keyed => 0
  | .continuous => 0

/-- GET_SEQUENCE of a sequence that is not FREE, with its owner's step store count (Table 11-4). -/
def sequencePayload (id : SeqId) (q : Sequence) (ownerSteps : Nat) : List Word :=
  [(0 : BitVec 5) ++ seqStateCode q.state ++ (0 : BitVec 4) ++ BitVec.ofNat 4 id.val,
   (0 : BitVec 6) ++ kindCode q.kind ++ (0 : BitVec 6) ++ portCode q.owner,
   sourceWord q.kind, budgetWord q.kind, q.pass.setWidth 16, numberWord q.index,
   numberWord q.restarts, numberWord q.misses, numberWord q.steps.length, numberWord ownerSteps]
  ++ q.steps.map stepWord

/-- GET_SEQUENCE of a FREE entry: id and state FREE, and nothing else (R51, Table 11-4). -/
def freePayload (id : SeqId) : List Word := [numberWord id.val]

/-- GET_MONITOR (Table 11-4). -/
def monitorPayload (i : MonId) (m : Monitor) : List Word :=
  [(0 : BitVec 2) ++ monStateCode m.state ++ (0 : BitVec 3) ++ actionCode m.action
     ++ (0 : BitVec 2) ++ ownerCode m.owner ++ (0 : BitVec 1) ++ BitVec.ofNat 3 i.val,
   numberWord m.channel.val, m.low, m.high, m.hysteresis,
   (0 : BitVec 4) ++ BitVec.ofNat 4 m.outside ++ (0 : BitVec 4) ++ BitVec.ofNat 4 m.count]

/-- The latch bit: 1 for TRIPPED (Table 11-4). -/
def latchBit (l : TripLatch) : BitVec 1 := bit (l.state == .tripped)

/-- TRIP_ACK word 1 (Table 11-4). -/
def tripAckWord (l : TripLatch) : Word := latchBit l ++ (0 : BitVec 3) ++ l.causes

/-- TRIP_STATUS word 1 (Table 11-4). -/
def tripStatusWord (l : TripLatch) : Word :=
  latchBit l ++ bit (l.tripin == .active) ++ bit (l.polarity == .high) ++ (0 : BitVec 1) ++ l.causes

/-- Whether a record has a sequence, and its number: absent fields are sent as 0 (R171). -/
def passBits : Option PassRef → BitVec 5
  | none => 0
  | some p => bit true ++ BitVec.ofNat 4 p.seq.val

/-- The step of a record, 0 when absent. -/
def indexBits : Option PassRef → BitVec 4
  | none => 0
  | some p => BitVec.ofNat 4 p.index

/-- The pass of a record, 0 when absent. -/
def passNumber : Option PassRef → BitVec 8
  | none => 0
  | some p => p.pass

/-- The sequence bits of a notice (Table 11-6). -/
def noticeSeqBits : NoticeBody → BitVec 5
  | .seqHalted id _ => bit true ++ BitVec.ofNat 4 id.val
  | .triggersMissed id _ _ => bit true ++ BitVec.ofNat 4 id.val
  | .mark _ => 0
  | .trip _ => 0
  | .tripCleared => 0
  | .leaseLapsed => 0

/-- The notice code (Table 11-6). -/
def noticeCode : NoticeBody → BitVec 4
  | .mark _ => 0
  | .seqHalted _ _ => 1
  | .triggersMissed _ _ _ => 2
  | .trip _ => 3
  | .tripCleared => 4
  | .leaseLapsed => 5

/-- The pass of a notice, 0 when absent. -/
def noticePass : NoticeBody → BitVec 8
  | .seqHalted _ p => p
  | .triggersMissed _ p _ => p
  | .mark _ => 0
  | .trip _ => 0
  | .tripCleared => 0
  | .leaseLapsed => 0

/-- The argument word of a notice (Table 11-6). -/
def noticeArgument : NoticeBody → Word
  | .mark v => v
  | .triggersMissed _ _ n => (0 : BitVec 8) ++ BitVec.ofNat 8 n
  | .trip c => c.setWidth 16
  | .seqHalted _ _ => 0
  | .tripCleared => 0
  | .leaseLapsed => 0

/-- The words of a record: 6 for a measurement, 5 for a notice (Tables 11-5 and 11-6). -/
def recordWords : Record → List Word
  | .measurement step c v t late clipped cfg untrimmed restarts gap =>
    [(0 : BitVec 1) ++ passBits step ++ indexBits step ++ BitVec.ofNat 2 restarts
       ++ bit late ++ bit clipped ++ bit cfg ++ bit untrimmed,
     passNumber step ++ BitVec.ofNat 8 gap, v, highWord t, lowWord t, numberWord c.val]
  | .notice body t gap =>
    [(1 : BitVec 1) ++ noticeSeqBits body ++ noticeCode body ++ (0 : BitVec 6),
     noticePass body ++ BitVec.ofNat 8 gap, noticeArgument body, highWord t, lowWord t]

/-- The producer port bit of a snapshot entry: 0 for A, 1 for B (Table 11-7). -/
def producerBit : Port → BitVec 1
  | .A => 0
  | .B => 1

/-- The producing sequence of a snapshot entry: presence bit and number (Table 11-7). -/
def producerSeqBits : Option SeqId → BitVec 5
  | none => 0
  | some id => bit true ++ BitVec.ofNat 4 id.val

/-- The words of a snapshot entry (Table 11-7); an invalid entry carries its generation and channel
and zeros (R107). -/
def snapshotWords (c : Channel) (e : SnapshotEntry) : List Word :=
  match e.held with
  | none => [(0 : BitVec 8) ++ e.generation, numberWord c.val, 0, 0, 0]
  | some v =>
    [bit true ++ producerBit v.port ++ producerSeqBits v.seq ++ (0 : BitVec 1) ++ e.generation,
     bit v.clipped ++ bit v.untrimmed ++ (0 : BitVec 9) ++ BitVec.ofNat 5 c.val,
     v.value, highWord v.stamp, lowWord v.stamp]

/-! ### Codes and inputs -/

/-- What the converter sees for a channel under a mode: an input, the difference of an even input
and the next, or an internal source (R2, R7, R22). -/
inductive AnalogSource where
  | pin (n : Fin 24)
  | pinDifference (even odd : Fin 24)
  | internalSource (n : Fin 8)
  deriving DecidableEq, Repr

/-- The input of a measurement of channel `c` under the latched mode (R22). -/
def analogSource (c : Channel) (mode : InputMode) : AnalogSource :=
  if h : c.val < 24 then
    match mode with
    | .single => .pin ⟨c.val, h⟩
    | .diff =>
      if h2 : c.val + 1 < 24 then .pinDifference ⟨c.val, h⟩ ⟨c.val + 1, h2⟩ else .pin ⟨c.val, h⟩
  else .internalSource ⟨c.val - 24, by omega⟩

/-- The input per code, in units of 1/131072 V (Table 1-3). -/
def inputPerCode : Range → Nat
  | .bipolar10V => 40
  | .bipolar5V => 20
  | .unipolar10V => 20
  | .unipolar2V5 => 5

/-- The code at which a range places 0 V (R5). -/
def zeroInputCode : Range → Int
  | .bipolar10V => 0
  | .bipolar5V => 0
  | .unipolar10V => -32768
  | .unipolar2V5 => -32768

/-- The nominal input, before trim, that code `code` stands for, in units of 1/131072 V (R5,
Table 1-3). -/
def nominalInput (r : Range) (code : Int) : Int := inputPerCode r * (code - zeroInputCode r)

/-- Where an input lies on the code scale of a range, before the ends of the span limit it; the
input is in units of 1/131072 V (Table 1-3). -/
def codePosition (r : Range) (input : Rat) : Rat := input / inputPerCode r + zeroInputCode r

/-- The whole code of a position: a nominal input has its own code; between two codes it is one of
the two, and the free value `Config.upperCode` says which (assumption 27). -/
def wholeCode (p : Rat) : Int := if Config.upperCode p then -(-p).floor else p.floor

/-- The nominal mapping from an input to its raw sample (R5): at or beyond either end of the span
the sample is -32768 or +32767, which the converter treats as clipped. -/
def nominalCode (r : Range) (input : Rat) : Word :=
  BitVec.ofInt 16 (max (-32768) (min 32767 (wholeCode (codePosition r input))))

/-- The input that the converter sees, from the levels at the pins and at the internal sources, in
units of 1/131072 V: in DIFF mode the difference of the even and the odd input (R2, R7, Table 1-3,
note 1). -/
def AnalogSource.input (pins : Fin 24 → Rat) (inside : Fin 8 → Rat) : AnalogSource → Rat
  | .pin n => pins n
  | .pinDifference even odd => pins even - pins odd
  | .internalSource n => inside n

/-- The raw sample of a measurement, from the levels at the pins and at the internal sources, under
its latched range and mode (R5, R22, R24). -/
def rawSample (m : Measurement) (pins : Fin 24 → Rat) (inside : Fin 8 → Rat) : Word :=
  nominalCode m.range ((analogSource m.channel m.mode).input pins inside)

end Sys2Proof.Machine
end

