-- ==== Sys2Proof/Machine/Flags.lean ====
section
/-! DEFINITION. Event flags and trip causes: their bits in the sets of Table 11-3, and what the two sets give. -/

namespace Sys2Proof.Machine

/-- The event flags (R153). -/
inductive Flag where
  | results
  | gap
  | sequence
  | late
  | monitor
  | trip
  | rearmed
  | resetAsked
  | resetDenied
  | lease
  | clock
  deriving DecidableEq, Repr

/-- The set holding one flag (Table 11-3). -/
def flagBit : Flag → FlagSet
  | .results => 0x001
  | .gap => 0x002
  | .sequence => 0x004
  | .late => 0x008
  | .monitor => 0x010
  | .trip => 0x020
  | .rearmed => 0x040
  | .resetAsked => 0x080
  | .resetDenied => 0x100
  | .lease => 0x200
  | .clock => 0x400

/-- The ALERT line is active while at least one flag is both set and in the mask (R169). -/
def alertActive (flags mask : FlagSet) : Bool := flags &&& mask != 0

/-- A flag set as a payload word, bits 15 to 11 zero (Table 11-4). -/
def flagWord (f : FlagSet) : Word := f.setWidth 16

/-- The trip causes (R119). -/
inductive Cause where
  | startup
  | ext
  | host (x : Port)
  | monitor (i : MonId)
  deriving DecidableEq, Repr

/-- The set holding one cause (Table 11-3). -/
def causeBit : Cause → CauseSet
  | .startup => startupBit
  | .ext => 0x002
  | .host .A => 0x004
  | .host .B => 0x008
  | .monitor i => (1 : CauseSet) <<< (i.val + 4)

/-- Whether a set holds a cause. -/
def hasCause (set : CauseSet) (c : Cause) : Bool := set &&& causeBit c != 0

/-- Every trip cause, in the bit order of Table 11-3. -/
def allCauses : List Cause :=
  [.startup, .ext, .host .A, .host .B] ++ allEights.map .monitor

end Sys2Proof.Machine
end

