-- ==== Sys2Proof/Machine/Ops.lean ====
section
/-! DEFINITION. The shared operations of the blocks: host ports, result queues, snapshot table, monitors, trip latch, descriptors, sessions, and what the blocks answer each other. -/

namespace Sys2Proof.Machine

/-! ### Host ports -/

/-- The host port of `x`. -/
def hostPort (x : Port) (s : State) : HostPort := s.host.get x

/-- `s` with the host port of `x` replaced. -/
def setHostPort (x : Port) (p : HostPort) (s : State) : State := s.setHost (s.host.set x p)

/-- Flags and mask of port `x` written together, and ALERT re-evaluated from them (R169). Every
change of a flag or a mask goes through here. -/
def setFlagsMask (x : Port) (flags mask : FlagSet) (s : State) : State :=
  setHostPort x
    { hostPort x s with flags := flags, mask := mask, alert := alertActive flags mask } s

/-- An owning block sets a flag of port `x` (R165). -/
def raiseFlag (x : Port) (f : Flag) (s : State) : State :=
  setFlagsMask x ((hostPort x s).flags ||| flagBit f) (hostPort x s).mask s

/-- The pending response of port `x` becomes `r` (R160). -/
def fixResponse (x : Port) (r : Response) (s : State) : State :=
  setHostPort x { hostPort x s with response := r } s

/-- The frame of port `x` ends: the receiver returns to IDLE and data-out is no longer driven
(R154). -/
def endFrame (x : Port) (s : State) : State :=
  setHostPort x { hostPort x s with receiver := .idle, dataOut := .undriven } s

/-! ### Sessions -/

/-- The session record of `x`. -/
def session (x : Port) (s : State) : Session := s.ses.session.get x

/-- `s` with the session record of `x` replaced. -/
def setSession (x : Port) (v : Session) (s : State) : State :=
  s.setSes { s.ses with session := s.ses.session.set x v }

/-- Whether the session of `x` is OPEN. -/
def sessionOpen (x : Port) (s : State) : Bool :=
  match session x s with
  | .opened _ => true
  | .closed => false
  | .lapsed => false

/-- An operation made for one port if its session is OPEN. -/
def whenOpen (x : Port) (f : State → State) (s : State) : State :=
  if sessionOpen x s then f s else s

/-- A lease of the given interval and policy renewed at `now`: the warning falls at half the
interval, the expiry at the whole (R126). -/
def leaseFrom (interval : Word) (policy : RenewPolicy) (now : Time) : Lease :=
  ⟨interval, policy, now, some (now + interval.setWidth 32 * 500),
   now + interval.setWidth 32 * 1000⟩

/-- A renewal of the lease of `x` at the present counter value, if its session is OPEN (R126). -/
def renewLease (x : Port) (s : State) : State :=
  match session x s with
  | .opened l => setSession x (.opened (leaseFrom l.interval l.policy s.tmb.counter)) s
  | .closed => s
  | .lapsed => s

/-! ### Result queues -/

/-- The result queue of `x`. -/
def resultQueue (x : Port) (s : State) : ResultQueue := s.res.queue.get x

/-- `s` with the result queue of `x` replaced. -/
def setQueue (x : Port) (q : ResultQueue) (s : State) : State :=
  s.setRes { s.res with queue := s.res.queue.set x q }

/-- The number of records in the queue of `x`. -/
def queueCount (x : Port) (s : State) : Nat := (resultQueue x s).records.length

/-- An append to the queue of `x` (R95). `mk` makes the record from the gap counter. Below 64 the
record is kept, the counter returns to 0 and RESULTS is set if the count reaches the watermark; at
64 the record is discarded, the counter rises, saturating at 255, and GAP is set. -/
def appendRecord (x : Port) (mk : Nat → Record) (s : State) : State :=
  let q := resultQueue x s
  if q.records.length < Config.queueCapacity then
    let s1 := setQueue x { q with records := q.records ++ [mk q.gap], gap := 0 } s
    if q.records.length + 1 = q.watermark then raiseFlag x .results s1 else s1
  else
    raiseFlag x .gap (setQueue x { q with gap := min 255 (q.gap + 1) } s)

/-- A notice appended to the queue of `x` (R91, R95). -/
def appendNotice (x : Port) (body : NoticeBody) (stamp : Time) (s : State) : State :=
  appendRecord x (fun gap => .notice body stamp gap) s

/-! ### Snapshot table -/

/-- A snapshot entry made invalid, its generation kept (R105). -/
def invalidEntry (e : SnapshotEntry) : SnapshotEntry := { e with held := none }

/-- The snapshot update of channel `c` (R104). -/
def updateSnapshot (c : Channel) (v : SnapshotValue) (s : State) : State :=
  s.setRes { s.res with
    snapshot := tset s.res.snapshot c ⟨(tget s.res.snapshot c).generation + 1, some v⟩ }

/-- The invalidation of the entry of channel `c` (R105). -/
def invalidateSnapshot (c : Channel) (s : State) : State :=
  s.setRes { s.res with
    snapshot := tset s.res.snapshot c (invalidEntry (tget s.res.snapshot c)) }

/-! ### Channels -/

/-- The external channel that a channel number is, if it is one (R2). -/
def external (c : Channel) : Option ExtChannel :=
  if h : c.val < 24 then some ⟨c.val, h⟩ else none

/-- The channel number of an external channel. -/
def channelOf (c : ExtChannel) : Channel := ⟨c.val, by omega⟩

/-- The odd partner of an even external channel (R7). -/
def oddPartner (c : ExtChannel) : Option ExtChannel :=
  if h : c.val % 2 = 0 ∧ c.val + 1 < 24 then some ⟨c.val + 1, h.2⟩ else none

/-- The even partner of an odd external channel (R7). -/
def evenPartner (c : ExtChannel) : Option ExtChannel :=
  if c.val % 2 = 1 then some ⟨c.val - 1, by omega⟩ else none

/-- The descriptor of any channel: the table's for an external one, the fixed values of Table 1-1
for an internal one (R3, R4). -/
def descriptor (c : Channel) (s : State) : Descriptor :=
  if h : c.val < 24 then tget s.cfe ⟨c.val, h⟩ else internalDescriptor ⟨c.val - 24, by omega⟩

/-- An external channel is absorbed while its even partner is in DIFF mode (R7). -/
def absorbedExt (c : ExtChannel) (s : State) : Bool :=
  match evenPartner c with
  | some e => (tget s.cfe e).mode == .diff
  | none => false

/-- Absorption of any channel; internal channels are never absorbed (Table 1-1, note 3). -/
def absorbed (c : Channel) (s : State) : Bool :=
  match external c with
  | some e => absorbedExt e s
  | none => false

/-- A channel is foreign to port `x` when it is external and owned by the other port (R42, R71,
R110). -/
def foreignTo (x : Port) (c : Channel) (s : State) : Bool :=
  match external c with
  | some e => (tget s.cfe e).owner == some (otherPort x)
  | none => false

/-! ### The measurement in flight -/

/-- The measurement in flight, if there is one (R17). -/
def inFlight (s : State) : Option Measurement :=
  match s.cnv.state with
  | .starting => none
  | .idle => none
  | .settling m _ => some m
  | .sampling m _ => some m

/-- A converter state with its measurement, if any, rewritten. -/
def ConvState.update (f : Measurement → Measurement) : ConvState → ConvState
  | .starting => .starting
  | .idle => .idle
  | .settling m t => .settling (f m) t
  | .sampling m t => .sampling (f m) t

/-- The CFG_CHANGED mark of the measurement in flight is set when its channel satisfies `p`
(R11). -/
def markConfigChanged (p : Channel → Bool) (s : State) : State :=
  s.setCnv { s.cnv with
    state := s.cnv.state.update fun m =>
      if p m.channel then { m with cfgChanged := true } else m }

/-! ### Sequences -/

/-- The sequence of an entry, `none` when it is FREE. -/
def sequence (id : SeqId) (s : State) : Option Sequence := tget s.seq.table id

/-- `s` with a table entry replaced. -/
def setSequence (id : SeqId) (q : Option Sequence) (s : State) : State :=
  s.setSeq { s.seq with table := tset s.seq.table id q }

/-- `s` with the sequence of an entry rewritten, if it holds one. -/
def updateSequence (id : SeqId) (f : Sequence → Sequence) (s : State) : State :=
  setSequence id ((sequence id s).map f) s

/-- The enabled states (Figure 3-1). -/
def SeqState.enabled : SeqState → Bool
  | .defined => false
  | .armed => true
  | .pending => true
  | .running => true
  | .stopping => true

/-- A sequence enters DEFINED by STOP or by the end of a pass: its miss count is discarded
(R40). -/
def Sequence.toDefined (q : Sequence) : Sequence := { q with state := .defined, misses := 0 }

/-- The start of a pass (R37). -/
def Sequence.startPass (q : Sequence) : Sequence :=
  { q with state := .running, pass := q.pass + 1, index := 0, restarts := 0 }

/-- The step at the sequence's step index. -/
def Sequence.current (q : Sequence) : Option SeqStep := q.steps[q.index]?

/-- Whether a step of the sequence names channel `c`. -/
def Sequence.names (q : Sequence) (c : Channel) : Bool := q.steps.any fun st => st.channel == c

/-- A channel is in use by the sequences of port `x`: a step of an enabled one names it (R41). -/
def usedBySequences (x : Port) (c : Channel) (s : State) : Bool :=
  allSeqs.any fun id =>
    match sequence id s with
    | some q => q.owner == x && q.state.enabled && q.names c
    | none => false

/-- How many sequences port `x` holds (R35). -/
def sequencesHeld (x : Port) (s : State) : Nat :=
  allSeqs.countP fun id =>
    match sequence id s with
    | some q => q.owner == x
    | none => false

/-! ### Monitors -/

/-- The monitor numbered `i`. -/
def monitor (i : MonId) (s : State) : Monitor := tget s.mon i

/-- `s` with monitor `i` replaced. -/
def setMonitorAt (i : MonId) (m : Monitor) (s : State) : State := s.setMon (tset s.mon i m)

/-- A channel is in use by the monitors of port `x`: an ON monitor of `x` watches it (R116). -/
def usedByMonitors (x : Port) (c : Channel) (s : State) : Bool :=
  allEights.any fun i =>
    (monitor i s).owner == some x && (monitor i s).state != .off && (monitor i s).channel == c

/-- A value is outside when it is below low or above high (R113). -/
def Monitor.isOutside (m : Monitor) (v : Word) : Bool :=
  v.toInt < m.low.toInt || m.high.toInt < v.toInt

/-- The hysteresis band: from low + hysteresis to high - hysteresis inclusive (R109). -/
def Monitor.inBand (m : Monitor) (v : Word) : Bool :=
  decide (m.low.toInt + (m.hysteresis.toNat : Int) ≤ v.toInt)
    && decide (v.toInt ≤ m.high.toInt - (m.hysteresis.toNat : Int))

/-- The evaluation of one monitor against a value (R113). -/
def Monitor.evaluate (m : Monitor) (v : Word) : Monitor :=
  match m.state with
  | .off => m
  | .within =>
    if m.isOutside v then
      { m with outside := 1, state := if m.count = 1 then .violated else .counting }
    else m
  | .counting =>
    if m.isOutside v then
      { m with
        outside := m.outside + 1
        state := if m.outside + 1 = m.count then .violated else .counting }
    else { m with outside := 0, state := .within }
  | .violated =>
    if m.inBand v then { m with outside := 0, state := .within } else m

/-- Whether an evaluation brought the monitor into VIOLATED (R114). -/
def entersViolated (before after : Monitor) : Bool :=
  before.state != .violated && after.state == .violated

/-! ### Trip latch -/

/-- A notice to each port whose session is OPEN, with a flag (R93, R120, R123). -/
def noticeOpenPorts (body : NoticeBody) (f : Flag) (s : State) : State :=
  let tell (x : Port) (s : State) : State :=
    whenOpen x (fun s => raiseFlag x f (appendNotice x body s.tmb.counter s)) s
  tell .B (tell .A s)

/-- Causes are added to the latch (R120). From ARMED the set becomes the added causes, the latch
trips, the line goes to its stop level, and each open port gets a TRIP notice and the TRIP flag; in
TRIPPED the causes join the set. -/
def addCauses (added : CauseSet) (s : State) : State :=
  match s.trp.state with
  | .armed =>
    noticeOpenPorts (.trip added) .trip
      (s.setTrp { s.trp with
        state := .tripped, causes := added, line := stopLevel s.trp.polarity })
  | .tripped => s.setTrp { s.trp with causes := s.trp.causes ||| added }

/-- Whether port `x` can vouch for a cause now (R123). -/
def removable (x : Port) (c : Cause) (s : State) : Bool :=
  match c with
  | .startup => true
  | .ext => s.trp.tripin == .inactive
  | .host y => y == x || !sessionOpen y s
  | .monitor i =>
    ((monitor i s).owner == some x || (monitor i s).owner == none)
      && (monitor i s).state != .violated

/-- The causes in the set that a TRIP_ACK from port `x` removes now (R123, R125). -/
def removableSet (x : Port) (s : State) : CauseSet :=
  allCauses.foldl (fun acc c => if removable x c s then acc ||| causeBit c else acc) 0
    &&& s.trp.causes

/-- The causes are taken out of the set; if it becomes empty the latch rearms, the line goes to its
run level, and each open port gets a TRIP_CLEARED notice and the REARMED flag (R123). -/
def removeCauses (gone : CauseSet) (s : State) : State :=
  match s.trp.state with
  | .armed => s
  | .tripped =>
    if s.trp.causes &&& ~~~gone = 0 then
      noticeOpenPorts .tripCleared .rearmed
        (s.setTrp { s.trp with state := .armed, causes := 0, line := runLevel s.trp.polarity })
    else s.setTrp { s.trp with causes := s.trp.causes &&& ~~~gone }

/-! ### Evaluation of the monitors on a snapshot update -/

/-- The flag of the owner of a monitor that entered VIOLATED (R114). -/
def raiseMonitorFlag (s : State) (i : MonId) : State :=
  match (monitor i s).owner with
  | some x => raiseFlag x .monitor s
  | none => s

/-- The causes that the monitors of a list with action TRIP add (R114). -/
def tripCausesOf (s : State) (entered : List MonId) : CauseSet :=
  entered.foldl
    (fun acc i => if (monitor i s).action = .trip then acc ||| causeBit (.monitor i) else acc) 0

/-- A snapshot update is handed to the monitor unit (R106): every ON monitor on the channel is
evaluated, those that enter VIOLATED set their owners' flags, and their causes with action TRIP are
added as one addition (R113, R114). -/
def evaluateMonitors (c : Channel) (v : Word) (s : State) : State :=
  let after := tmap s.mon fun _ m => if m.channel = c then m.evaluate v else m
  let entered := allEights.filter fun i => entersViolated (tget s.mon i) (tget after i)
  let s1 := entered.foldl raiseMonitorFlag (s.setMon after)
  let causes := tripCausesOf s1 entered
  if causes = 0 then s1 else addCauses causes s1

/-! ### Trigger sources -/

/-- A source is bound to a sequence, or to none (R77). -/
def setBound (n : SourceId) (id : Option SeqId) (s : State) : State :=
  s.setTrg { s.trg with bound := tset s.trg.bound n id }

/-- The source of a TRIGGERED sequence becomes unbound when the sequence is freed (R77). -/
def unbindKind (k : SeqKind) (s : State) : State :=
  match k with
  | .triggered n _ => setBound n none s
  | .keyed => s
  | .continuous => s

end Sys2Proof.Machine
end

