-- ==== Sys2Proof/Machine/Scheduling.lean ====
section
/-! DEFINITION. The converter's and the scheduler's shared operations: start, cut and abandon orders, dispatch, rotation, outcomes (R17 to R32, R37 to R39, R53 to R75). -/

namespace Sys2Proof.Machine

/-! ### The converter's orders -/

/-- A start order (R22): taken in IDLE, it latches the descriptor, clears the marks, counts and sum,
and enters SETTLING, or SAMPLING at once when the latched settle is 0 (R23). In any other state it
is not taken. -/
def converterStart (port : Port) (step : Option StepRef) (c : Channel) (n : SampleCount)
    (s : State) : State :=
  match s.cnv.state with
  | .idle =>
    let d := descriptor c s
    let m : Measurement :=
      ⟨port, step, c, n, d.range, d.mode, d.settle, false, 0, 0, false, false⟩
    s.setCnv { s.cnv with
      state := if d.settle = 0 then .sampling m s.tmb.counter
        else .settling m (s.tmb.counter + d.settle.setWidth 32) }
  | .starting => s
  | .settling _ _ => s
  | .sampling _ _ => s

/-- The converter clears the measurement in flight and enters IDLE. -/
def converterIdle (s : State) : State := s.setCnv { s.cnv with state := .idle }

/-! ### Orders of the scheduler -/

/-- One start order: the view becomes BUSY with its service record, and the converter takes the
order (R53, R59). -/
def startMeasurement (cls : WorkClass) (port : Port) (item : WorkItem) (step : Option StepRef)
    (c : Channel) (n : SampleCount) (shielded : Bool) (s : State) : State :=
  converterStart port step c n
    (s.setSch { s.sch with view := .busy ⟨cls, port, item, shielded, false⟩ })

/-- The current step of a sequence is started (R59). A background step at restart count 3 is
protected (R66). An entry that is FREE, or has no step at its index, starts nothing (assumption
18). -/
def startSequenceStep (cls : WorkClass) (id : SeqId) (s : State) : State :=
  match sequence id s with
  | none => s
  | some q =>
    match q.current with
    | none => s
    | some st =>
      startMeasurement cls q.owner (.step ⟨id, q.index⟩) (some ⟨id, q.index⟩) st.channel st.samples
        (cls == .background && q.restarts == 3) s

/-- The sequence manager starts a pass of a sequence (R37). -/
def startPassOf (id : SeqId) (s : State) : State := updateSequence id Sequence.startPass s

/-- The first or next measurement of a prompt pass is started (R59, R72). -/
def startPromptWork (p : PromptEntry) (s : State) : State :=
  match p.item with
  | .sequence id => startSequenceStep .prompt id s
  | .immediate c n => startMeasurement .prompt p.port (.immediate c) none c n false s

/-- The pass of a prompt entry starts, if it is a sequence's (R60). -/
def startPromptPass (p : PromptEntry) (s : State) : State :=
  match p.item with
  | .sequence id => startPassOf id s
  | .immediate _ _ => s

/-! ### Background rotation -/

/-- A CONTINUOUS sequence in RUNNING or STOPPING is a candidate (R61). -/
def Sequence.candidate (q : Sequence) : Bool :=
  q.kind == .continuous && (q.state == .running || q.state == .stopping)

/-- A candidate of port `p` is runnable unless its current step is not quiet and the port's result
queue holds 64 records (R62). -/
def runnable (p : Port) (id : SeqId) (s : State) : Bool :=
  match sequence id s with
  | none => false
  | some q =>
    q.owner == p && q.candidate &&
      match q.current with
      | none => false
      | some st => st.quiet || decide (queueCount p s < Config.queueCapacity)

/-- The sequence that port `p` is served with: the runnable candidate with the lowest id above the
port's last served id, else the one with the lowest id (R61). -/
def rotationPick (p : Port) (s : State) : Option SeqId :=
  let ready := allSeqs.filter fun id => runnable p id s
  match ready.find? fun id => decide (s.sch.lastServed.get p < id) with
  | some id => some id
  | none => ready.head?

/-- A background turn of port `p` is spent on a sequence (R61). -/
def serveBackground (p : Port) (id : SeqId) (s : State) : State :=
  startSequenceStep .background id
    (s.setSch { s.sch with
      lastServed := s.sch.lastServed.set p id, nextPort := otherPort p })

/-- Background rotation: the pointer's port first, then the other; no runnable candidate, no
work (R61). -/
def rotate (s : State) : State :=
  match rotationPick s.sch.nextPort s with
  | some id => serveBackground s.sch.nextPort id s
  | none =>
    match rotationPick (otherPort s.sch.nextPort) s with
    | some id => serveBackground (otherPort s.sch.nextPort) id s
    | none => s

/-! ### Dispatch -/

/-- The head of the urgent queue becomes the active urgent pass and its step 0 is started (R59,
R60). -/
def dispatchUrgentHead (e : UrgentEntry) (rest : List UrgentEntry) (s : State) : State :=
  match sequence e.seq s with
  | none => s.setSch { s.sch with urgent := rest }
  | some q =>
    startSequenceStep .urgent e.seq
      (startPassOf e.seq
        (s.setSch { s.sch with
          urgent := rest
          activeUrgent := some ⟨e.seq, q.owner, e.arrival, e.deadline, .undecided⟩ }))

/-- The head of the prompt queue becomes the active prompt pass and its first measurement is
started (R59, R60). -/
def dispatchPromptHead (e : PromptEntry) (rest : List PromptEntry) (s : State) : State :=
  startPromptWork e
    (startPromptPass e (s.setSch { s.sch with prompt := rest, activePrompt := some e }))

/-- A dispatch takes the first item that exists: the active urgent pass, the urgent head, the active
prompt pass, the prompt head, background rotation (R59). -/
def dispatch (s : State) : State :=
  match s.sch.activeUrgent with
  | some p => startSequenceStep .urgent p.seq s
  | none =>
    match s.sch.urgent with
    | e :: rest => dispatchUrgentHead e rest s
    | [] =>
      match s.sch.activePrompt with
      | some p => startPromptWork p s
      | none =>
        match s.sch.prompt with
        | e :: rest => dispatchPromptHead e rest s
        | [] => rotate s

/-- A dispatch made if the view is FREE (R58). -/
def dispatchIfFree (s : State) : State := if s.sch.view = .free then dispatch s else s

/-- The converter has reported itself free: the service record is cleared, the view is FREE, and a
dispatch follows (R58, R63, R65). -/
def releaseConverter (s : State) : State := dispatch (s.setSch { s.sch with view := .free })

/-! ### Cuts -/

/-- The converter reports CUT: the restart count of the producing sequence rises, its step index
does not move, and the scheduler dispatches (R39, R65). -/
def cutReport (m : Measurement) (s : State) : State :=
  releaseConverter
    (match m.step with
     | some r => updateSequence r.seq (fun q => { q with restarts := q.restarts + 1 }) s
     | none => s)

/-- A cut order at the converter (R27): from SETTLING the measurement is abandoned at once and CUT
is reported; in SAMPLING cut pending is set; with nothing in flight nothing changes. -/
def converterCut (s : State) : State :=
  match s.cnv.state with
  | .settling m _ => cutReport m (converterIdle s)
  | .sampling m t => s.setCnv { s.cnv with state := .sampling { m with cutPending := true } t }
  | .idle => s
  | .starting => s

/-- Whether the measurement a service record describes may be cut now (R64). -/
def Service.cuttable (r : Service) : Bool :=
  r.cls == .background && !r.shielded && !r.cutOrdered

/-- An urgent entry has joined the queue: dispatch if the view is FREE, order a cut of an
unprotected background measurement, or let the entry wait (R56, R64). -/
def considerUrgent (s : State) : State :=
  match s.sch.view with
  | .free => dispatch s
  | .busy r =>
    if r.cuttable then
      converterCut (s.setSch { s.sch with view := .busy { r with cutOrdered := true } })
    else s
  | .notReady => s

/-- An urgent request with its arrival timestamp (R56). -/
def urgentRequest (id : SeqId) (budget : Word) (arrival : Time) (s : State) : State :=
  let deadline := if budget = 0 then none else some (arrival + budget.setWidth 32)
  considerUrgent
    (s.setSch { s.sch with urgent := s.sch.urgent ++ [⟨id, arrival, deadline⟩] })

/-- A prompt entry joins the tail; if the view is FREE a dispatch follows (R57, R58). -/
def promptRequest (e : PromptEntry) (s : State) : State :=
  dispatchIfFree (s.setSch { s.sch with prompt := s.sch.prompt ++ [e] })

/-- The prompt queue has no room for port `x`: it holds 8 entries, or 4 of the port (R45, R71). -/
def promptFull (x : Port) (s : State) : Bool :=
  decide (Config.promptCapacity ≤ s.sch.prompt.length)
    || decide (Config.promptQuota ≤ s.sch.prompt.countP fun e => e.port == x)

/-! ### Withdrawal -/

/-- Whether a prompt entry or pass is the sequence `id`'s. -/
def PromptEntry.isSequence (e : PromptEntry) (id : SeqId) : Bool := e.item == .sequence id

/-- The requests of a sequence are removed from both queues (R73). -/
def removeRequests (id : SeqId) (s : State) : State :=
  s.setSch { s.sch with
    urgent := s.sch.urgent.filter fun e => e.seq != id
    prompt := s.sch.prompt.filter fun e => !e.isSequence id }

/-- The sequence is cleared as the active urgent or prompt pass (R74). -/
def clearPasses (id : SeqId) (s : State) : State :=
  s.setSch { s.sch with
    activeUrgent := s.sch.activeUrgent.filter fun p => p.seq != id
    activePrompt := s.sch.activePrompt.filter fun p => !p.isSequence id }

/-- An abandon order at the converter: a measurement in flight that `p` names is abandoned at once,
and the report (HALTED or TORN_DOWN) frees the scheduler, which dispatches (R30, R74, R75). -/
def abandonWhere (p : Measurement → Bool) (s : State) : State :=
  match inFlight s with
  | some m => if p m then releaseConverter (converterIdle s) else s
  | none => s

/-- The measurement is one of a sequence's (R30). -/
def Measurement.ofSequence (m : Measurement) (id : SeqId) : Bool :=
  match m.step with
  | some r => r.seq == id
  | none => false

/-! ### Outcomes -/

/-- What the converter hands the scheduler at a completion (R26). -/
structure Measured where
  port : Port
  step : Option StepRef
  channel : Channel
  value : Word
  stamp : Time
  clipped : Bool
  cfgChanged : Bool
  untrimmed : Bool
  deriving DecidableEq, Repr

/-- The entry of the trim table for a range (Table 2-1). -/
def trimIndex : Range → Fin 4
  | .bipolar10V => 0
  | .bipolar5V => 1
  | .unipolar10V => 2
  | .unipolar2V5 => 3

/-- The average: the partial sum divided by N, rounded toward minus infinity (R25). -/
def average (m : Measurement) : Int := m.sum / (m.samples.toNat : Int)

/-- The trimmed value before saturation: the product of average and gain over 32768, rounded toward
minus infinity, plus the offset (R25). -/
def trimExact (e : TrimEntry) (avg : Int) : Int :=
  avg * (e.gain.toNat : Int) / 32768 + e.offset.toInt

/-- Saturation to a signed 16-bit code (R25). -/
def saturate (v : Int) : Word := BitVec.ofInt 16 (max (-32768) (min 32767 v))

/-- The outcome of a completed measurement (R25, R26). -/
def outcomeOf (m : Measurement) (stamp : Time) (c : Converter) : Measured :=
  ⟨m.port, m.step, m.channel, saturate (trimExact (tget c.trim (trimIndex m.range)) (average m)),
   stamp, m.clip, m.cfgChanged, c.trimState == .trimFault⟩

/-- The class of the measurement the service record describes (R53). -/
def serviceClass (s : State) : Option WorkClass :=
  match s.sch.view with
  | .busy r => some r.cls
  | .free => none
  | .notReady => none

/-- Elapsed time against the allowance, both modulo 2^32 (R69). -/
def judgePass (p : UrgentPass) (stamp : Time) : PassJudgement :=
  match p.deadline with
  | none => .onTime
  | some d => if (stamp - p.arrival) ≤ (d - p.arrival) then .onTime else .late

/-- The judgement of the active urgent pass at its first completion; a pass judged LATE sets its
owner's LATE flag (R69). -/
def judgeUrgent (stamp : Time) (s : State) : State :=
  match s.sch.activeUrgent with
  | none => s
  | some p =>
    if p.judgement = .undecided then
      let j := judgePass p stamp
      let s1 := s.setSch { s.sch with activeUrgent := some { p with judgement := j } }
      if j = .late then raiseFlag p.owner .late s1 else s1
    else s

/-- Whether the active urgent pass is judged LATE (R70). -/
def passLate (s : State) : Bool :=
  match s.sch.activeUrgent with
  | some p => p.judgement == .late
  | none => false

/-- The sequence, step and pass of an outcome (R63, R90). -/
def passRefOf (o : Measured) (s : State) : Option PassRef :=
  o.step.map fun r => ⟨r.seq, r.index, ((sequence r.seq s).map (·.pass)).getD 0⟩

/-- The restart count of an outcome: the sequence's for a BACKGROUND measurement, else 0 (R63). -/
def restartsOf (o : Measured) (s : State) : Nat :=
  if serviceClass s = some .background then
    match o.step with
    | some r => ((sequence r.seq s).map (·.restarts)).getD 0
    | none => 0
  else 0

/-- Whether the step of an outcome is quiet; a CONVERT_NOW measurement has no quiet setting
(R72). -/
def isQuiet (o : Measured) (s : State) : Bool :=
  match o.step with
  | none => false
  | some r => ((sequence r.seq s).bind fun q => q.steps[r.index]?).any fun st => st.quiet

/-- The record of an outcome (R90). -/
def recordOf (o : Measured) (late : Bool) (s : State) (gap : Nat) : Record :=
  .measurement (passRefOf o s) o.channel o.value o.stamp late o.clipped o.cfgChanged o.untrimmed
    (restartsOf o s) gap

/-- The hand-off of an outcome to the result unit: record, snapshot update, monitors (R92). -/
def handOff (o : Measured) (late : Bool) (s : State) : State :=
  let s1 := if isQuiet o s then s else appendRecord o.port (recordOf o late s) s
  evaluateMonitors o.channel o.value
    (updateSnapshot o.channel
      ⟨o.value, o.stamp, o.port, o.step.map (·.seq), o.clipped, o.untrimmed⟩ s1)

/-- Whether step `index` is the last of the sequence. -/
def Sequence.isLast (q : Sequence) (index : Nat) : Bool := decide (q.steps.length ≤ index + 1)

/-- The position of a sequence after a completion of its step `index` (R38): the next step, or the
end of the pass with the new state of the table there. -/
def Sequence.afterStep (q : Sequence) (index : Nat) : Sequence :=
  if q.isLast index then
    let ended := { q with index := 0, restarts := 0 }
    match q.state, q.kind with
    | .running, .continuous => ended.startPass
    | .running, .keyed => { ended with state := .armed }
    | .running, .triggered _ _ => { ended with state := .armed }
    | .stopping, _ => ended.toDefined
    | .defined, _ => q
    | .armed, _ => q
    | .pending, _ => q
  else
    match q.state with
    | .running => { q with index := index + 1, restarts := 0 }
    | .stopping => { q with index := index + 1, restarts := 0 }
    | .defined => q
    | .armed => q
    | .pending => q

/-- Whether a completion of step `index` ends the pass and sets the owner's SEQUENCE flag (R38). -/
def Sequence.flagsEnd (q : Sequence) (index : Nat) : Bool :=
  q.isLast index &&
    match q.state, q.kind with
    | .running, .continuous => false
    | .running, .keyed => true
    | .running, .triggered _ _ => true
    | .stopping, _ => true
    | .defined, _ => false
    | .armed, _ => false
    | .pending, _ => false

/-- The scheduler reports a step completion to the sequence manager (R38). -/
def stepCompleted (r : StepRef) (s : State) : State :=
  match sequence r.seq s with
  | none => s
  | some q =>
    let s1 := setSequence r.seq (some (q.afterStep r.index)) s
    if q.flagsEnd r.index then raiseFlag q.owner .sequence s1 else s1

/-- Whether the outcome ends the active pass it belongs to: a CONVERT_NOW always, a step when it is
its sequence's last (R63). -/
def endsPass (o : Measured) (s : State) : Bool :=
  match o.step with
  | none => true
  | some r => (sequence r.seq s).all fun q => q.isLast r.index

/-- Active pass upkeep (R63): a pass that has ended becomes absent. -/
def passUpkeep (cls : Option WorkClass) (ended : Bool) (s : State) : State :=
  if ended then
    match cls with
    | some .urgent => s.setSch { s.sch with activeUrgent := none }
    | some .prompt => s.setSch { s.sch with activePrompt := none }
    | some .background => s
    | none => s
  else s

/-- The scheduler takes an outcome (R63): completed, handed off, reported, upkeep, and then the
record cleared and a dispatch. -/
def takeOutcome (o : Measured) (s : State) : State :=
  let cls := serviceClass s
  let s1 := if cls = some .urgent then judgeUrgent o.stamp s else s
  let late := cls == some .urgent && passLate s1
  let ended := endsPass o s1
  let s2 := handOff o late s1
  let s3 := match o.step with
    | some r => stepCompleted r s2
    | none => s2
  releaseConverter (passUpkeep cls ended s3)

end Sys2Proof.Machine
end

