-- ==== Sys2Proof/Machine/Teardown.lean ====
section
/-! DEFINITION. Releases, the teardown of a port, the commanded device reset and the end of a session (R138, R141, R142). -/

namespace Sys2Proof.Machine

/-! ### Releases -/

/-- The owner of a resource in the claim table (R135). -/
def claimOwner (r : Resource) (s : State) : Option Port :=
  match r with
  | .channel c => tget s.ses.claims.channel c
  | .monitor i => tget s.ses.claims.monitor i
  | .source n => tget s.ses.claims.source n

/-- `s` with the claim table replaced. -/
def setClaims (v : ClaimTable) (s : State) : State := s.setSes { s.ses with claims := v }

/-- The claim table with the owner of one resource replaced. -/
def ClaimTable.setOwner (t : ClaimTable) (r : Resource) (o : Option Port) : ClaimTable :=
  match r with
  | .channel c => { t with channel := tset t.channel c o }
  | .monitor i => { t with monitor := tset t.monitor i o }
  | .source n => { t with source := tset t.source n o }

/-- The released settings of source `n` (R87): a line's edge returns to RISING and its reference
level is kept; a timer returns to 1000 us, STOPPED. The binding is not the release's. -/
def releaseSourceSettings (n : SourceId) (t : TriggerUnit) : TriggerUnit :=
  if h : n.val < 4 then
    { t with line := tset t.line ⟨n.val, h⟩ { tget t.line ⟨n.val, h⟩ with edge := .rising } }
  else { t with timer := tset t.timer ⟨n.val - 4, by omega⟩ defaultTimer }

/-- The block that holds a resource takes its release: a channel returns to its defaults with its
snapshot entry invalid and a measurement of it in flight marked (R14, R11), a monitor to its
released values (R117), a source to its defaults (R87). -/
def takeRelease (r : Resource) (s : State) : State :=
  match r with
  | .channel c =>
    markConfigChanged (fun d => d == channelOf c)
      (invalidateSnapshot (channelOf c) (s.setCfe (tset s.cfe c defaultDescriptor)))
  | .monitor i => setMonitorAt i releasedMonitor s
  | .source n =>
    s.setTrg { releaseSourceSettings n s.trg with owner := tset s.trg.owner n none }

/-- The release of a resource: the claim table first, then the block that holds it (R137). -/
def releaseResource (r : Resource) (s : State) : State :=
  takeRelease r (setClaims (s.ses.claims.setOwner r none) s)

/-- The block that holds a resource takes its grant: the owner copy becomes the claimant (R13, R117,
R76). -/
def takeGrant (r : Resource) (x : Port) (s : State) : State :=
  match r with
  | .channel c => s.setCfe (tset s.cfe c { tget s.cfe c with owner := some x })
  | .monitor i => setMonitorAt i { monitor i s with owner := some x } s
  | .source n => s.setTrg { s.trg with owner := tset s.trg.owner n (some x) }

/-- The grant of a resource: the claim table first, then the block that holds it (R136). -/
def grantResource (r : Resource) (x : Port) (s : State) : State :=
  takeGrant r x (setClaims (s.ses.claims.setOwner r (some x)) s)

/-! ### Teardown, block by block (R138) -/

/-- The scheduler's share (R75, items 1 to 3): the port's entries leave both queues, its active
passes become absent, its last served id returns to 15. It reads the sequence table as it stands
before the sequences are freed. -/
def teardownSch (x : Port) (s : State) : State :=
  let owned (id : SeqId) : Bool := (sequence id s).any fun q => q.owner == x
  s.setSch { s.sch with
    urgent := s.sch.urgent.filter fun e => !owned e.seq
    prompt := s.sch.prompt.filter fun e => e.port != x
    activeUrgent := s.sch.activeUrgent.filter fun p => p.owner != x
    activePrompt := s.sch.activePrompt.filter fun p => p.port != x
    lastServed := s.sch.lastServed.set x 15 }

/-- The number of steps in the table's sequences of port `x`. -/
def stepsHeld (x : Port) (s : State) : Nat :=
  (allSeqs.map fun id =>
    match sequence id s with
    | some q => if q.owner = x then q.steps.length else 0
    | none => 0).sum

/-- The sequence manager's share (R52): every sequence of the port becomes FREE, its steps return to
the store and its source is unbound. -/
def teardownSeq (x : Port) (s : State) : State :=
  let held := stepsHeld x s
  let owned (id : SeqId) : Bool := (sequence id s).any fun q => q.owner == x
  let s1 := s.setTrg { s.trg with
    bound := tmap s.trg.bound fun _ b => b.filter fun id => !owned id }
  s1.setSeq
    { table := tmap s.seq.table fun _ e => e.filter fun q => q.owner != x
      stepTotal := s.seq.stepTotal - held
      stepCount := s.seq.stepCount.set x 0 }

/-- Whether the claim table gives channel number `c` to port `x`. -/
def claimsChannel (x : Port) (c : Channel) (s : State) : Bool :=
  match external c with
  | some e => tget s.ses.claims.channel e == some x
  | none => false

/-- The channel front end's share (R14): the port's channels return to their defaults, their
snapshot entries become invalid, and a measurement in flight on one of them is marked. -/
def teardownCfe (x : Port) (s : State) : State :=
  let mine (c : ExtChannel) : Bool := tget s.ses.claims.channel c == some x
  let s1 := s.setCfe (tmap s.cfe fun c d => if mine c then defaultDescriptor else d)
  let s2 := s1.setRes { s.res with
    snapshot := tmap s.res.snapshot fun c e => if claimsChannel x c s then invalidEntry e else e }
  markConfigChanged (fun c => claimsChannel x c s) s2

/-- The trigger unit's share (R87): the port's timers stop and its sources return to their
defaults. -/
def teardownTrg (x : Port) (s : State) : State :=
  let mine (n : SourceId) : Bool := tget s.ses.claims.source n == some x
  s.setTrg { s.trg with
    owner := tmap s.trg.owner fun n o => if mine n then none else o
    line := tmap s.trg.line fun n l => if mine (lineSource n) then { l with edge := .rising } else l
    timer := tmap s.trg.timer fun n t => if mine (timerSource n) then defaultTimer else t }

/-- The monitor unit's share (R118): the port's monitors go OFF with the released values. -/
def teardownMon (x : Port) (s : State) : State :=
  s.setMon (tmap s.mon fun i m =>
    if tget s.ses.claims.monitor i == some x then releasedMonitor else m)

/-- The claim table's share (R138): every claim of the port is released. -/
def teardownClaims (x : Port) (s : State) : State :=
  let drop (o : Option Port) : Option Port := if o = some x then none else o
  setClaims
    { channel := tmap s.ses.claims.channel fun _ o => drop o
      monitor := tmap s.ses.claims.monitor fun _ o => drop o
      source := tmap s.ses.claims.source fun _ o => drop o } s

/-- The timebase's share (R151): the port's mark leaves a clock check in progress. -/
def teardownTmb (x : Port) (s : State) : State :=
  s.setTmb { s.tmb with
    check := s.tmb.check.map fun k => { k with marks := k.marks.set x false } }

/-- What ends a session (R132, R131). A lapse carries the time of the lease expiry. -/
inductive SessionEnd where
  | close
  | lapse (time : Time)
  deriving DecidableEq, Repr

/-- The result unit's share (R108): a lapse appends LEASE_LAPSED, a close empties the queue. -/
def teardownRes (x : Port) (e : SessionEnd) (s : State) : State :=
  match e with
  | .lapse t => appendNotice x .leaseLapsed t s
  | .close => setQueue x queueReset s

/-- `s` with the consent state replaced. -/
def setConsent (v : Option Consent) (s : State) : State := s.setSes { s.ses with consent := v }

/-- The consent state's share (R141): a request that the port made with requester mark OPEN is
cancelled; one with mark NOT_OPEN stands. -/
def teardownConsent (x : Port) (s : State) : State :=
  setConsent (s.ses.consent.filter fun c => !(c.asker == x && c.askedOpen)) s

/-- The teardown of port `x` (R138). The converter's abandon order comes last, so that the dispatch
that follows it finds every other share done (assumption 12). -/
def teardown (x : Port) (e : SessionEnd) (s : State) : State :=
  let s1 := teardownSeq x (teardownSch x s)
  let s2 := teardownMon x (teardownTrg x (teardownCfe x s1))
  let s3 := teardownConsent x (teardownRes x e (teardownTmb x (teardownClaims x s2)))
  abandonWhere (fun m => m.port == x) s3

/-! ### Commanded device reset -/

/-- A host port at a commanded device reset: a frame in progress is abandoned and carries filler
from then on, flags and mask are empty, ALERT is inactive, RESET_DONE (COMMANDED) is pending (R153,
R162). -/
def HostPort.commandedReset (p : HostPort) : HostPort :=
  match p.receiver with
  | .idle => ⟨.idle, .undriven, commandedResponse, 0, 0, false⟩
  | .receiving _ => ⟨.discarding, .filler, commandedResponse, 0, 0, false⟩
  | .discarding => ⟨.discarding, .filler, commandedResponse, 0, 0, false⟩

/-- The reference levels of the four trigger lines. -/
def lineLevels (t : TriggerUnit) : Vector Level 4 := Vector.ofFn fun n => (tget t.line n).level

/-- The commanded device reset (R142): every block returns to its reset values but for the trim
table and state, the trip latch, the line reference levels, the counter, the sync capture and the
last clock-check result, which are kept. -/
def deviceReset (s : State) : State :=
  { s with
    cfe := cfeReset
    cnv := { s.cnv with state := .idle }
    seq := seqReset
    sch := schReset .free
    trg := trgReset (lineLevels s.trg)
    res := resReset
    mon := monReset
    ses := sesReset
    tmb := { s.tmb with check := none }
    host := ⟨s.host.a.commandedReset, s.host.b.commandedReset⟩ }

/-! ### The end of a session -/

/-- Whether port `x` is the asked port of a consent window (R139). -/
def isAsked (x : Port) (s : State) : Bool := s.ses.consent.any fun c => c.asker == otherPort x

/-- The session of `x` ends (R131, R132): the state leaves OPEN, the port is torn down, and if it
was the asked port of a consent window the commanded device reset follows (R141). A CLOSE also
empties the flags and the mask; a lapse keeps them (R166). -/
def endSession (x : Port) (e : SessionEnd) (s : State) : State :=
  let s1 := match e with
    | .close => setFlagsMask x 0 0 (teardown x e (setSession x .closed s))
    | .lapse _ => teardown x e (setSession x .lapsed s)
  if isAsked x s then deviceReset s1 else s1

end Sys2Proof.Machine
end

