-- ==== Sys2Proof/Machine/Judging.lean ====
section
/-! DEFINITION. How the end of a frame is judged: the order of the checks, the response fixed and the renewal of the lease (R128, R133, R158 to R162). -/

namespace Sys2Proof.Machine

/-- What a command's own checks and effect give: a refusal; an answer with status, payload and next
state; or a next state that leaves the pending response alone, as for REPEAT (R161) and for a reset
that has made it RESET_DONE (R160, R162). -/
inductive Reply where
  | refuse (st : Status)
  | answer (st : Status) (payload : List Word) (s : State)
  | silent (s : State)
  deriving DecidableEq, Repr

/-- The commands taken in STARTING (R158, check 3). -/
def takenInStarting : HostCommand → Bool
  | .status => true
  | .ident => true
  | .repeatLast => true
  | _ => false

/-- The commands taken past the session check in a CLOSED session (R133). -/
def takenInClosed : HostCommand → Bool
  | .openSession => true
  | .status => true
  | .ident => true
  | .repeatLast => true
  | .readSnapshot => true
  | .readTime => true
  | .readSync => true
  | .resetDevice => true
  | _ => false

/-- The session check (R133). -/
def sessionAdmits (v : Session) (c : HostCommand) : Bool :=
  match v with
  | .opened _ => true
  | .closed => takenInClosed c
  | .lapsed => takenInClosed c || c == .readResults || c == .flush

/-- The start-state check (R158, check 3). -/
def startAdmits (s : State) (c : HostCommand) : Bool :=
  s.cnv.state != .starting || takenInStarting c

/-- The two commands that renew under either policy (R128). -/
def alwaysRenews : HostCommand → Bool
  | .renew => true
  | .setLease => true
  | _ => false

/-- The lease renewal that a command answered OK or PENDING brings in an OPEN session (R128). -/
def renewAfter (x : Port) (c : HostCommand) (s : State) : State :=
  match session x s with
  | .opened l => if l.policy = .renewAny || alwaysRenews c then renewLease x s else s
  | .closed => s
  | .lapsed => s

/-- The start-state and session checks, then the command's own (R158, checks 3 to 8). -/
def judge (x : Port) (c : HostCommand) (body : State → Reply) (s : State) : Reply :=
  if startAdmits s c then
    if sessionAdmits (session x s) c then body s else .refuse .noSession
  else .refuse .notReady

/-- The response of a reply is fixed: a refusal changes no state but the response, an answer renews
the lease as R128 states, a silent reply leaves the response (R158, R160). -/
def settleReply (x : Port) (c : HostCommand) (tag : Tag) (s : State) : Reply → State
  | .refuse st => fixResponse x ⟨st, tag, []⟩ s
  | .answer st payload s1 => fixResponse x ⟨st, tag, payload⟩ (renewAfter x c s1)
  | .silent s1 => s1

/-- The end of a frame on port `x`. While RESETN is active the port takes no frame (R153). In
DISCARDING no command is judged and the receiver returns to IDLE (R162). Otherwise `judged` acts on
the state in which the frame has ended; an IDLE receiver means the row stands for the whole frame,
its beginning included (assumption 2). -/
def atFrameEnd (x : Port) (judged : State → State) (s : State) : State :=
  if s.resetActive then s
  else
    match (hostPort x s).receiver with
    | .discarding => endFrame x s
    | .idle => judged (endFrame x s)
    | .receiving _ => judged (endFrame x s)

/-- A frame that passed the frame check and carries a known command (R158). -/
def takeCommand (x : Port) (c : HostCommand) (tag : Tag) (body : State → Reply) (s : State) : State :=
  atFrameEnd x (fun s0 => settleReply x c tag s0 (judge x c body s0)) s

/-- A word completed on data-in (Table 10-2): kept in RECEIVING, discarded otherwise. -/
def receiveWord (x : Port) (w : Word) (s : State) : State :=
  match (hostPort x s).receiver with
  | .receiving ws => setHostPort x { hostPort x s with receiver := .receiving (ws ++ [w]) } s
  | .idle => s
  | .discarding => s

end Sys2Proof.Machine
end

