-- ==== Sys2Proof/Machine/Channels.lean ====
section
/-! DEFINITION. SET_CHANNEL and GET_CHANNEL. -/

namespace Sys2Proof.Machine

/-- A settle argument, 0 to 1023 microseconds (R4). -/
def settleOf (w : Word) : Option (BitVec 10) :=
  if w.toNat ≤ 1023 then some (w.setWidth 10) else none

/-- A CONVERT_NOW request of either port on the channel waits in the prompt queue or is the active
prompt pass (R9). -/
def usedByConvertNow (c : Channel) (s : State) : Bool :=
  let names (e : PromptEntry) : Bool :=
    match e.item with
    | .immediate d _ => d == c
    | .sequence _ => false
  s.sch.prompt.any names || s.sch.activePrompt.any names

/-- The odd partner of a DIFF write by `x` is in use (R9). -/
def partnerInUse (x : Port) (c : ExtChannel) (s : State) : Bool :=
  usedBySequences x (channelOf c) s || usedByMonitors x (channelOf c) s
    || usedByConvertNow (channelOf c) s
    || (inFlight s).any fun m => m.channel == channelOf c

/-- The snapshot entries that a write invalidates (R10): on SINGLE to DIFF those of the channel and
its partner, on DIFF to SINGLE and on a change of range the channel's. -/
def invalidateForWrite (c : ExtChannel) (before after : Descriptor) (s : State) : State :=
  match before.mode, after.mode with
  | .single, .diff =>
    let s1 := invalidateSnapshot (channelOf c) s
    match oddPartner c with
    | some o => invalidateSnapshot (channelOf o) s1
    | none => s1
  | .diff, .single => invalidateSnapshot (channelOf c) s
  | .single, .single =>
    if before.range = after.range then s else invalidateSnapshot (channelOf c) s
  | .diff, .diff =>
    if before.range = after.range then s else invalidateSnapshot (channelOf c) s

/-- A descriptor write that is taken: the fields at once, the invalidations, and the mark of a
measurement in flight on the channel, whatever values the write carries (R10, R11). -/
def writeDescriptor (c : ExtChannel) (range : Range) (mode : InputMode) (settle : BitVec 10)
    (s : State) : State :=
  let before := tget s.cfe c
  let after : Descriptor := { before with range := range, mode := mode, settle := settle }
  markConfigChanged (fun d => d == channelOf c)
    (invalidateForWrite c before after (s.setCfe (tset s.cfe c after)))

/-- The ownership and object-state checks of SET_CHANNEL, then the write (R9). -/
def checkedWrite (x : Port) (c : ExtChannel) (range : Range) (mode : InputMode)
    (settle : BitVec 10) (s : State) : Reply :=
  let before := tget s.cfe c
  if before.owner ≠ some x then .refuse .notOwner
  else
    match mode with
    | .single =>
      if absorbedExt c s then .refuse .wrongState
      else .answer .ok [] (writeDescriptor c range mode settle s)
    | .diff =>
      match oddPartner c with
      | none => .refuse .badArgument
      | some o =>
        if (tget s.cfe o).owner ≠ some x then .refuse .notOwner
        else if absorbedExt c s then .refuse .wrongState
        else if before.mode = .single ∧ partnerInUse x o s then .refuse .inUse
        else .answer .ok [] (writeDescriptor c range mode settle s)

/-- DIFF is a mode of the even external channels only (R9). -/
def modeAllowed (c : ExtChannel) (mode : InputMode) : Bool :=
  match mode with
  | .single => true
  | .diff => (oddPartner c).isSome

/-- SET_CHANNEL (R9, R10). -/
def setChannelCommand (x : Port) (args : List Word) (s : State) : Reply :=
  match args with
  | [ch, rg, md, st] =>
    match numberBelow 24 ch, rangeOf rg, modeOf md, settleOf st with
    | some c, some range, some mode, some settle =>
      if modeAllowed c mode then checkedWrite x c range mode settle s else .refuse .badArgument
    | _, _, _, _ => .refuse .badArgument
  | _ => .refuse .badArgument

/-- SET_CHANNEL. -/
def execSetChannel (x : Port) (tag : Tag) (args : List Word) (s : State) :
    Host.Outcome State Fault Refusal :=
  .next (takeCommand x .setChannel tag (setChannelCommand x args) s)

/-- The payload of GET_CHANNEL (R12, Table 11-4). -/
def channelPayload (c : Channel) (s : State) : List Word :=
  let d := descriptor c s
  [channelWord (absorbed c s) (external c).isNone c d, d.settle.setWidth 16]

/-- GET_CHANNEL (R12). -/
def getChannelCommand (args : List Word) (s : State) : Reply :=
  match args with
  | [ch] =>
    match numberBelow 32 ch with
    | none => .refuse .badArgument
    | some c => .answer .ok (channelPayload c s) s
  | _ => .refuse .badArgument

/-- GET_CHANNEL. -/
def execGetChannel (x : Port) (tag : Tag) (args : List Word) (s : State) :
    Host.Outcome State Fault Refusal :=
  .next (takeCommand x .getChannel tag (getChannelCommand args) s)

end Sys2Proof.Machine
end

