-- ==== Sys2Proof/Machine/Claims.lean ====
section
/-! DEFINITION. CLAIM and RELEASE. -/

namespace Sys2Proof.Machine

/-- An unowned channel is in use against a claim by `x` when an enabled sequence or an ON monitor of
the other port names it (R136, R41, R116). -/
def inUseAgainstClaim (x : Port) (r : Resource) (s : State) : Bool :=
  match r with
  | .channel c =>
    usedBySequences (otherPort x) (channelOf c) s || usedByMonitors (otherPort x) (channelOf c) s
  | .monitor _ => false
  | .source _ => false

/-- CLAIM (R136). The payload is GRANTED 0 or HELD 1 (Table 11-2). -/
def claimCommand (x : Port) (args : List Word) (s : State) : Reply :=
  match args with
  | [cls, num] =>
    match resourceOf cls num with
    | none => .refuse .badArgument
    | some r =>
      match claimOwner r s with
      | some y => if y = x then .answer .ok [1] s else .refuse .owned
      | none =>
        if inUseAgainstClaim x r s then .refuse .inUse else .answer .ok [0] (grantResource r x s)
  | _ => .refuse .badArgument

/-- CLAIM. -/
def execClaim (x : Port) (tag : Tag) (args : List Word) (s : State) :
    Host.Outcome State Fault Refusal :=
  .next (takeCommand x .claim tag (claimCommand x args) s)

/-- The in-use question for a RELEASE by the owner (R15, R116, R41): a channel absorbed, named by an
enabled sequence or watched by an ON monitor of the owner; a monitor that is not OFF; a source that
is bound. -/
def inUseAgainstRelease (x : Port) (r : Resource) (s : State) : Bool :=
  match r with
  | .channel c =>
    absorbedExt c s || usedBySequences x (channelOf c) s || usedByMonitors x (channelOf c) s
  | .monitor i => (monitor i s).state != .off
  | .source n => (tget s.trg.bound n).isSome

/-- RELEASE (R137). -/
def releaseCommand (x : Port) (args : List Word) (s : State) : Reply :=
  match args with
  | [cls, num] =>
    match resourceOf cls num with
    | none => .refuse .badArgument
    | some r =>
      if claimOwner r s = some x then
        if inUseAgainstRelease x r s then .refuse .inUse else .answer .ok [] (releaseResource r s)
      else .refuse .notOwner
  | _ => .refuse .badArgument

/-- RELEASE. -/
def execRelease (x : Port) (tag : Tag) (args : List Word) (s : State) :
    Host.Outcome State Fault Refusal :=
  .next (takeCommand x .release tag (releaseCommand x args) s)

end Sys2Proof.Machine
end

