-- ==== Sys2Proof/Machine/Clock.lean ====
section
/-! DEFINITION. READ_TIME, READ_SYNC, CHECK_CLOCK, READ_CLOCK_CHECK, SYNC_EDGE, REFCLK_EDGE and CHECK_TICK_COUNT_LIMIT. -/

namespace Sys2Proof.Machine

/-- READ_TIME (R145). -/
def readTimeCommand (args : List Word) (s : State) : Reply :=
  match args with
  | [] => .answer .ok [highWord s.tmb.counter, lowWord s.tmb.counter] s
  | _ => .refuse .badArgument

/-- READ_TIME. -/
def execReadTime (x : Port) (tag : Tag) (args : List Word) (s : State) :
    Host.Outcome State Fault Refusal :=
  .next (takeCommand x .readTime tag (readTimeCommand args) s)

/-- READ_SYNC (R147). -/
def readSyncCommand (args : List Word) (s : State) : Reply :=
  match args with
  | [] =>
    .answer .ok [highWord s.tmb.syncCapture, lowWord s.tmb.syncCapture, s.tmb.syncCount] s
  | _ => .refuse .badArgument

/-- READ_SYNC. -/
def execReadSync (x : Port) (tag : Tag) (args : List Word) (s : State) :
    Host.Outcome State Fault Refusal :=
  .next (takeCommand x .readSync tag (readSyncCommand args) s)

/-- A clock check with the marks of one port (R149). -/
def newCheck (x : Port) : RunningCheck := ⟨.awaitingEdge, PerPort.set ⟨false, false⟩ x true, 0⟩

/-- CHECK_CLOCK starts a check, or marks the port in the one that runs (R149). The payload is STARTED
0 or JOINED 1 (Table 11-2). -/
def checkClockCommand (x : Port) (args : List Word) (s : State) : Reply :=
  match args with
  | [] =>
    match s.tmb.check with
    | none => .answer .ok [0] (s.setTmb { s.tmb with check := some (newCheck x) })
    | some k =>
      .answer .ok [1]
        (s.setTmb { s.tmb with check := some { k with marks := k.marks.set x true } })
  | _ => .refuse .badArgument

/-- CHECK_CLOCK. -/
def execCheckClock (x : Port) (tag : Tag) (args : List Word) (s : State) :
    Host.Outcome State Fault Refusal :=
  .next (takeCommand x .checkClock tag (checkClockCommand x args) s)

/-- READ_CLOCK_CHECK word 1 (R152, Table 11-4). -/
def checkWord (x : Port) (t : Timebase) : Word :=
  bit t.check.isSome ++ bit (t.check.any fun k => k.marks.get x) ++ (0 : BitVec 11)
    ++ verdictCode t.lastVerdict

/-- READ_CLOCK_CHECK: the payload is read when the frame is taken (R152). Against a completion of the
check this follows R152, not the two outcomes that R151's table gives for a READ_CLOCK_CHECK taken
first or second, which contradict it (the model's choice, assumption 28). -/
def readClockCheckCommand (x : Port) (args : List Word) (s : State) : Reply :=
  match args with
  | [] =>
    .answer .ok
      [checkWord x s.tmb, numberWord s.tmb.lastCount, highWord s.tmb.lastTime,
       lowWord s.tmb.lastTime] s
  | _ => .refuse .badArgument

/-- READ_CLOCK_CHECK. -/
def execReadClockCheck (x : Port) (tag : Tag) (args : List Word) (s : State) :
    Host.Outcome State Fault Refusal :=
  .next (takeCommand x .readClockCheck tag (readClockCheckCommand x args) s)

/-- A transition of SYNC to `level` (R146): a rising one captures the counter and raises the count,
a falling one updates the reference level alone. A level equal to the reference level is no
transition; while RESETN is active none is taken (assumptions 3 and 9). -/
def syncEdge (level : Level) (s : State) : State :=
  if s.resetActive || s.tmb.syncLevel == level then s
  else
    match level with
    | .low => s.setTmb { s.tmb with syncLevel := .low }
    | .high =>
      s.setTmb { s.tmb with
        syncLevel := .high, syncCapture := s.tmb.counter, syncCount := s.tmb.syncCount + 1 }

/-- SYNC_EDGE. -/
def execSyncEdge (level : Level) (s : State) : Host.Outcome State Fault Refusal :=
  .next (syncEdge level s)

/-- The CLOCK flag of port `x` is set if the check is marked by it (R150). -/
def tellMarked (k : RunningCheck) (x : Port) (s : State) : State :=
  if k.marks.get x then raiseFlag x .clock s else s

/-- The completion of a check (R150): result stored with the counter, CLOCK at the marked ports,
IDLE. -/
def completeCheck (k : RunningCheck) (v : ClockVerdict) (count : Nat) (s : State) : State :=
  tellMarked k .B
    (tellMarked k .A
      (s.setTmb { s.tmb with
        check := none, lastVerdict := v, lastCount := count, lastTime := s.tmb.counter }))

/-- The verdict on the count at the 8th edge (R150); at 8191 the count has saturated (assumption
22). -/
def verdictOf (count : Nat) : ClockVerdict :=
  if count ≤ 3827 then .oscSlow
  else if count ≤ 3984 then .good
  else if count < Config.tickLimit then .oscFast
  else .noReference

/-- A rising edge of REFCLK (R150): it opens the count, or raises the periods counted, the 8th of
which completes the check. In IDLE it is not taken. -/
def refclkEdge (s : State) : State :=
  match s.tmb.check with
  | none => s
  | some k =>
    match k.phase with
    | .awaitingEdge =>
      s.setTmb { s.tmb with check := some { k with phase := .counting 0, ticks := 0 } }
    | .counting p =>
      if p + 1 < 8 then
        s.setTmb { s.tmb with check := some { k with phase := .counting (p + 1) } }
      else completeCheck k (verdictOf k.ticks) k.ticks s

/-- REFCLK_EDGE. -/
def execRefclkEdge (s : State) : Host.Outcome State Fault Refusal := .next (refclkEdge s)

/-- The tick count of a running check reaches 8191 (R150): NO_REFERENCE, with count 0 before the
opening edge and 8191 after it. In IDLE there is no tick count (assumptions 3 and 4). -/
def checkTickCountLimit (s : State) : State :=
  match s.tmb.check with
  | none => s
  | some k =>
    match k.phase with
    | .awaitingEdge => completeCheck k .noReference 0 s
    | .counting _ => completeCheck k .noReference Config.tickLimit s

/-- CHECK_TICK_COUNT_LIMIT. -/
def execCheckTickCountLimit (s : State) : Host.Outcome State Fault Refusal :=
  .next (checkTickCountLimit s)

end Sys2Proof.Machine
end

