-- ==== Sys2Proof/Machine/Conversion.lean ====
section
/-! DEFINITION. CONVERT_NOW, SETTLE_EXPIRY and SAMPLE_COMPLETION. -/

namespace Sys2Proof.Machine

/-- CONVERT_NOW (R71). -/
def convertNowCommand (x : Port) (args : List Word) (s : State) : Reply :=
  match args with
  | [ch, n] =>
    match numberBelow 32 ch, samplesOf n.toNat with
    | some c, some k =>
      if foreignTo x c s then .refuse .foreign
      else if promptFull x s then .refuse .full
      else if absorbed c s then .refuse .wrongState
      else .answer .ok [] (promptRequest ⟨x, .immediate c k⟩ s)
    | _, _ => .refuse .badArgument
  | _ => .refuse .badArgument

/-- CONVERT_NOW. -/
def execConvertNow (x : Port) (tag : Tag) (args : List Word) (s : State) :
    Host.Outcome State Fault Refusal :=
  .next (takeCommand x .convertNow tag (convertNowCommand x args) s)

/-- The settle timer expires in SETTLING: SAMPLING, with the counter as timestamp (R23). In any other
state no settle timer runs (assumptions 3 and 4). -/
def settleExpiry (s : State) : State :=
  match s.cnv.state with
  | .settling m _ => s.setCnv { s.cnv with state := .sampling m s.tmb.counter }
  | .sampling _ _ => s
  | .idle => s
  | .starting => s

/-- SETTLE_EXPIRY. -/
def execSettleExpiry (s : State) : Host.Outcome State Fault Refusal := .next (settleExpiry s)

/-- A sample at either end of the code range is clipped (R5, R24). -/
def isClipped (raw : Word) : Bool := raw == 0x8000 || raw == 0x7FFF

/-- A sample added to the measurement (R24, items 1 and 2). -/
def addSample (raw : Word) (m : Measurement) : Measurement :=
  { m with
    sum := m.sum + raw.toInt, taken := m.taken + 1, clip := m.clip || isClipped raw }

/-- A conversion sample completes in SAMPLING (R24): with cut pending the measurement is abandoned
and CUT reported (R28); with fewer than N samples the next begins; else the measurement completes
and its outcome is handed to the scheduler (R25, R26). In any other state no sample is under way
(assumption 3). -/
def sampleCompletion (raw : Word) (s : State) : State :=
  match s.cnv.state with
  | .sampling m t =>
    let m1 := addSample raw m
    if m.cutPending then cutReport m1 (converterIdle s)
    else if m1.taken < m.samples.toNat then s.setCnv { s.cnv with state := .sampling m1 t }
    else takeOutcome (outcomeOf m1 t s.cnv) (converterIdle s)
  | .settling _ _ => s
  | .idle => s
  | .starting => s

/-- SAMPLE_COMPLETION. -/
def execSampleCompletion (raw : Word) (s : State) : Host.Outcome State Fault Refusal :=
  .next (sampleCompletion raw s)

end Sys2Proof.Machine
end

