-- ==== Sys2Proof/Machine/Power.lean ====
section
/-! DEFINITION. POWER_ON, PIN_RESET, RESETN_RELEASE and END_OF_TRIM_LOAD. -/

namespace Sys2Proof.Machine

/-- The TRIPIN level that a line level is: TRIPIN is active when low (R119). -/
def tripinOf : Level → TripinLevel
  | .low => .active
  | .high => .inactive

/-- The levels of the four trigger lines. -/
def trgLevels (l : LineLevels) : Vector Level 4 := #v[l.trg0, l.trg1, l.trg2, l.trg3]

/-- A host port at the end of a power-on or pin reset: DISCARDING, carrying filler, if select is
active, else IDLE (R153, R162). -/
def hostAtResetEnd (selectActive : Bool) : HostPort :=
  if selectActive then { hostReset with receiver := .discarding, dataOut := .filler } else hostReset

/-- The trip latch as a power-on or pin reset begins: TRIPPED with STARTUP, TPOL sampled, the line at
its stop level (R119). -/
def latchAtResetBegin (tpol : Level) (tripin : TripinLevel) : TripLatch :=
  ⟨.tripped, startupBit, tripin, tpol, stopLevel tpol⟩

/-- The blocks at the beginning of a power-on or pin reset (R16, R18, R32, R36, R54, R88, R94, R103,
R109, R126, R135, R139, R144, R148, R153). The levels of the trigger lines, SYNC and TRIPIN are
those held, until the end of the reset takes them (assumption 9). Each receiver is IDLE and data-out
is not driven until then, also at a port that is still selected (assumption 29). -/
def resetBlocks (tpol : Level) (s : State) : State :=
  { s with
    cfe := cfeReset
    cnv := cnvReset s.cnv.store
    seq := seqReset
    sch := schReset .notReady
    trg := trgReset (lineLevels s.trg)
    res := resReset
    mon := monReset
    trp := latchAtResetBegin tpol s.trp.tripin
    ses := sesReset
    tmb := tmbReset s.tmb.syncLevel
    host := ⟨hostReset, hostReset⟩ }

/-- The levels taken at the end of a power-on or pin reset: the reference levels of the trigger
lines and SYNC, the TRIPIN level with EXT added if it is active, and the select lines (R88, R121,
R146, R162). The counter starts from 0 (R144). -/
def takeLevels (l : LineLevels) (s : State) : State :=
  let s1 : State :=
    { s with
      trg := { s.trg with
        line := tmap s.trg.line fun n r => { r with level := tget (trgLevels l) n } }
      tmb := { s.tmb with counter := 0, subTick := 0, syncLevel := l.sync }
      trp := { s.trp with tripin := tripinOf l.tripin }
      host := ⟨hostAtResetEnd l.selectA, hostAtResetEnd l.selectB⟩
      resetActive := false }
  match tripinOf l.tripin with
  | .active => addCauses (causeBit .ext) s1
  | .inactive => s1

/-- Power-on, its end included: every block at its reset values, the levels taken, the trim load
begun (R18, R19; assumption 10). -/
def powerOn (tpol : Level) (l : LineLevels) (s : State) : State :=
  takeLevels l (resetBlocks tpol s)

/-- POWER_ON. -/
def execPowerOn (tpol : Level) (l : LineLevels) (s : State) : Host.Outcome State Fault Refusal :=
  .next (powerOn tpol l s)

/-- RESETN goes active: all work and any trim load are abandoned, the blocks take their reset values
and TPOL is sampled (R18, R20, R32, R119). -/
def pinReset (tpol : Level) (s : State) : State := (resetBlocks tpol s).setResetActive true

/-- PIN_RESET. -/
def execPinReset (tpol : Level) (s : State) : Host.Outcome State Fault Refusal :=
  .next (pinReset tpol s)

/-- RESETN is released: the counter starts, the levels are taken and the trim load begins (R144,
R88, R121, R146, R162, R19). With RESETN inactive there is no release (assumption 3). -/
def resetnRelease (l : LineLevels) (s : State) : State :=
  if s.resetActive then takeLevels l s else s

/-- RESETN_RELEASE. -/
def execResetnRelease (l : LineLevels) (s : State) : Host.Outcome State Fault Refusal :=
  .next (resetnRelease l s)

/-- The eight trim words of the store, gain before offset (R19). -/
def storeTrimWords (store : Vector Word 9) : List Word := store.toList.take 8

/-- The store's check word matches the CRC-16 of its trim words (R19). -/
def storeMatches (store : Vector Word 9) : Bool :=
  crc16 (storeTrimWords store) == tget store 8

/-- The trim table that the store holds (R19, Table 2-1). -/
def storeTrim (store : Vector Word 9) : Vector TrimEntry 4 :=
  #v[⟨tget store 0, tget store 1⟩, ⟨tget store 2, tget store 3⟩,
     ⟨tget store 4, tget store 5⟩, ⟨tget store 6, tget store 7⟩]

/-- The converter at the end of the trim load (R19). -/
def loadTrim (c : Converter) : Converter :=
  if storeMatches c.store then
    { c with state := .idle, trim := storeTrim c.store, trimState := .trimValid }
  else { c with state := .idle, trim := identityTrim, trimState := .trimFault }

/-- The trim load ends (R19): the table is loaded on a match and stays at identity with TRIM_FAULT
otherwise; the converter goes IDLE and reports itself free. Outside STARTING, and while RESETN is
active, no load is in progress (assumptions 3 and 9). -/
def endOfTrimLoad (s : State) : State :=
  if s.cnv.state = .starting ∧ s.resetActive = false then
    releaseConverter (s.setCnv (loadTrim s.cnv))
  else s

/-- END_OF_TRIM_LOAD. -/
def execEndOfTrimLoad (s : State) : Host.Outcome State Fault Refusal := .next (endOfTrimLoad s)

end Sys2Proof.Machine
end

