-- ==== Sys2Proof/Machine/HostFrames.lean ====
section
/-! DEFINITION. Frames that carry no known command, the start of a frame, and the commands of Chapter 10: STATUS, IDENT, REPEAT, ACK_EVENTS, SET_ALERT_MASK. -/

namespace Sys2Proof.Machine

/-- Select goes active: from IDLE the receiver goes to RECEIVING and data-out drives the pending
response as it stands (R154). Select that is already active cannot go active, and while RESETN is
active the port takes no frame (R153; assumption 3). -/
def frameBegin (x : Port) (s : State) : State :=
  if s.resetActive then s
  else
    match (hostPort x s).receiver with
    | .idle =>
      setHostPort x
        { hostPort x s with
          receiver := .receiving [], dataOut := .response (hostPort x s).response } s
    | .receiving _ => s
    | .discarding => s

/-- FRAME_BEGIN. -/
def execFrameBegin (x : Port) (s : State) : Host.Outcome State Fault Refusal := .next (frameBegin x s)

/-- A frame that fails the frame check: FRAME_ERROR becomes the pending response, with no effect
beside it and no renewal (R157). -/
def frameError (x : Port) (words : List Word) (s : State) : State :=
  atFrameEnd x (fixResponse x ⟨.frameError, frameErrorTag words, []⟩) s

/-- FRAME_ERROR. -/
def execFrameError (x : Port) (words : List Word) (_bits : BitVec 4) (s : State) :
    Host.Outcome State Fault Refusal :=
  .next (frameError x words s)

/-- A frame whose code is not in Table 11-2 is refused with UNKNOWN, before any later check (R158). -/
def unknownCommand (x : Port) (tag : Tag) (s : State) : State :=
  atFrameEnd x (fixResponse x ⟨.unknown, tag, []⟩) s

/-- UNKNOWN_COMMAND. -/
def execUnknownCommand (x : Port) (_code : BitVec 7) (tag : Tag) (_args : List Word) (s : State) :
    Host.Outcome State Fault Refusal :=
  .next (unknownCommand x tag s)

/-- Select is released on a frame that a reset abandoned: no command is judged, the pending response
stays and the receiver returns to IDLE (R162). With no such frame nothing ends (assumption 3). -/
def discardedFrameEnd (x : Port) (s : State) : State :=
  if s.resetActive then s
  else
    match (hostPort x s).receiver with
    | .discarding => endFrame x s
    | .idle => s
    | .receiving _ => s

/-- DISCARDED_FRAME_END. -/
def execDiscardedFrameEnd (x : Port) (s : State) : Host.Outcome State Fault Refusal :=
  .next (discardedFrameEnd x s)

/-- STATUS word 1 (R163, Table 11-4). -/
def statusWord (x : Port) (s : State) : Word :=
  bit (s.cnv.state != .starting) ++ bit (s.cnv.trimState == .trimFault)
    ++ sessionCode (session x s) ++ sessionCode (session (otherPort x) s)
    ++ consentCode s.ses.consent ++ latchBit s.trp ++ (0 : BitVec 7)

/-- STATUS word 4 (R163, Table 11-4). -/
def queueWord (x : Port) (s : State) : Word :=
  BitVec.ofNat 8 (queueCount x s) ++ (0 : BitVec 4) ++ BitVec.ofNat 4 (resultQueue x s).delivered

/-- STATUS: four words read when the frame is taken; it changes no state (R163). -/
def statusCommand (x : Port) (args : List Word) (s : State) : Reply :=
  match args with
  | [] =>
    .answer .ok
      [statusWord x s, flagWord (hostPort x s).flags, flagWord (hostPort x s).mask, queueWord x s] s
  | _ => .refuse .badArgument

/-- STATUS. -/
def execStatus (x : Port) (tag : Tag) (args : List Word) (s : State) :
    Host.Outcome State Fault Refusal :=
  .next (takeCommand x .status tag (statusCommand x args) s)

/-- IDENT: vendor code, part number, revision and the port (R164). -/
def identCommand (x : Port) (args : List Word) (s : State) : Reply :=
  match args with
  | [] =>
    .answer .ok
      [Config.vendorCode, Config.partNumber, Config.revision, (portCode x).setWidth 16] s
  | _ => .refuse .badArgument

/-- IDENT. -/
def execIdent (x : Port) (tag : Tag) (args : List Word) (s : State) :
    Host.Outcome State Fault Refusal :=
  .next (takeCommand x .ident tag (identCommand x args) s)

/-- REPEAT leaves the pending response in place and renews nothing (R161). -/
def repeatCommand (args : List Word) (s : State) : Reply :=
  match args with
  | [] => .silent s
  | _ => .refuse .badArgument

/-- REPEAT. -/
def execRepeatLast (x : Port) (tag : Tag) (args : List Word) (s : State) :
    Host.Outcome State Fault Refusal :=
  .next (takeCommand x .repeatLast tag (repeatCommand args) s)

/-- ACK_EVENTS clears the named flags and returns those that remain (R167). -/
def ackEventsCommand (x : Port) (args : List Word) (s : State) : Reply :=
  match args with
  | [w] =>
    match flagSetOf w with
    | none => .refuse .badArgument
    | some named =>
      let p := hostPort x s
      .answer .ok [flagWord (p.flags &&& ~~~named)]
        (setFlagsMask x (p.flags &&& ~~~named) p.mask s)
  | _ => .refuse .badArgument

/-- ACK_EVENTS. -/
def execAckEvents (x : Port) (tag : Tag) (args : List Word) (s : State) :
    Host.Outcome State Fault Refusal :=
  .next (takeCommand x .ackEvents tag (ackEventsCommand x args) s)

/-- SET_ALERT_MASK replaces the alert mask (R168). -/
def setAlertMaskCommand (x : Port) (args : List Word) (s : State) : Reply :=
  match args with
  | [w] =>
    match flagSetOf w with
    | none => .refuse .badArgument
    | some m => .answer .ok [] (setFlagsMask x (hostPort x s).flags m s)
  | _ => .refuse .badArgument

/-- SET_ALERT_MASK. -/
def execSetAlertMask (x : Port) (tag : Tag) (args : List Word) (s : State) :
    Host.Outcome State Fault Refusal :=
  .next (takeCommand x .setAlertMask tag (setAlertMaskCommand x args) s)

end Sys2Proof.Machine
end

