-- ==== Sys2Proof/Machine/Monitors.lean ====
section
/-! DEFINITION. SET_MONITOR, MONITOR_ON, MONITOR_OFF and GET_MONITOR. -/

namespace Sys2Proof.Machine

/-- The settings that SET_MONITOR writes (R110). -/
structure MonitorSettings where
  channel : Channel
  low : Word
  high : Word
  hysteresis : Word
  count : Nat
  action : MonAction
  deriving DecidableEq, Repr

/-- The limit conditions of SET_MONITOR, on the exact integer sums (R110). -/
def limitsFit (low high hyst : Word) : Bool :=
  decide (low.toInt ≤ high.toInt) && decide (hyst.toNat ≤ 4095)
    && decide (low.toInt + (hyst.toNat : Int) ≤ high.toInt - (hyst.toNat : Int))

/-- The settings that six argument words name (R110). -/
def settingsOf (ch low high hyst cnt act : Word) : Option MonitorSettings :=
  match numberBelow 32 ch, actionOf act with
  | some c, some a =>
    if limitsFit low high hyst ∧ 1 ≤ cnt.toNat ∧ cnt.toNat ≤ 15 then
      some ⟨c, low, high, hyst, cnt.toNat, a⟩
    else none
  | _, _ => none

/-- A monitor with its settings written; it stays OFF with outside count 0 (R110). -/
def Monitor.program (m : Monitor) (v : MonitorSettings) : Monitor :=
  ⟨m.owner, v.channel, v.low, v.high, v.hysteresis, v.count, v.action, .off, 0⟩

/-- SET_MONITOR (R110). -/
def setMonitorCommand (x : Port) (args : List Word) (s : State) : Reply :=
  match args with
  | [mn, ch, low, high, hyst, cnt, act] =>
    match numberBelow 8 mn, settingsOf ch low high hyst cnt act with
    | some i, some v =>
      let m := monitor i s
      if m.owner ≠ some x then .refuse .notOwner
      else if foreignTo x v.channel s then .refuse .foreign
      else if m.state ≠ .off then .refuse .wrongState
      else if absorbed v.channel s then .refuse .wrongState
      else .answer .ok [] (setMonitorAt i (m.program v) s)
    | _, _ => .refuse .badArgument
  | _ => .refuse .badArgument

/-- SET_MONITOR. -/
def execSetMonitor (x : Port) (tag : Tag) (args : List Word) (s : State) :
    Host.Outcome State Fault Refusal :=
  .next (takeCommand x .setMonitor tag (setMonitorCommand x args) s)

/-- A command whose one argument is a monitor number (R111, R112, R115). -/
def withMonitor (args : List Word) (f : MonId → Reply) : Reply :=
  match args with
  | [mn] =>
    match numberBelow 8 mn with
    | none => .refuse .badArgument
    | some i => f i
  | _ => .refuse .badArgument

/-- MONITOR_ON (R111). -/
def monitorOnCommand (x : Port) (args : List Word) (s : State) : Reply :=
  withMonitor args fun i =>
    let m := monitor i s
    if m.owner ≠ some x then .refuse .notOwner
    else if foreignTo x m.channel s then .refuse .foreign
    else if m.state ≠ .off then .refuse .wrongState
    else if m.count = 0 then .refuse .wrongState
    else if absorbed m.channel s then .refuse .wrongState
    else .answer .ok [] (setMonitorAt i { m with state := .within, outside := 0 } s)

/-- MONITOR_ON. -/
def execMonitorOn (x : Port) (tag : Tag) (args : List Word) (s : State) :
    Host.Outcome State Fault Refusal :=
  .next (takeCommand x .monitorOn tag (monitorOnCommand x args) s)

/-- A monitor turned OFF: its settings are kept, and an OFF monitor is unchanged (R112). -/
def Monitor.turnOff (m : Monitor) : Monitor :=
  match m.state with
  | .off => m
  | .within => { m with state := .off, outside := 0 }
  | .counting => { m with state := .off, outside := 0 }
  | .violated => { m with state := .off, outside := 0 }

/-- MONITOR_OFF (R112). -/
def monitorOffCommand (x : Port) (args : List Word) (s : State) : Reply :=
  withMonitor args fun i =>
    if (monitor i s).owner ≠ some x then .refuse .notOwner
    else .answer .ok [] (setMonitorAt i (monitor i s).turnOff s)

/-- MONITOR_OFF. -/
def execMonitorOff (x : Port) (tag : Tag) (args : List Word) (s : State) :
    Host.Outcome State Fault Refusal :=
  .next (takeCommand x .monitorOff tag (monitorOffCommand x args) s)

/-- GET_MONITOR from either port (R115). -/
def getMonitorCommand (args : List Word) (s : State) : Reply :=
  withMonitor args fun i => .answer .ok (monitorPayload i (monitor i s)) s

/-- GET_MONITOR. -/
def execGetMonitor (x : Port) (tag : Tag) (args : List Word) (s : State) :
    Host.Outcome State Fault Refusal :=
  .next (takeCommand x .getMonitor tag (getMonitorCommand args) s)

end Sys2Proof.Machine
end

