-- ==== Sys2Proof/Machine/Results.lean ====
section
/-! DEFINITION. READ_RESULTS, FLUSH, MARK, SET_WATERMARK and READ_SNAPSHOT. -/

namespace Sys2Proof.Machine

/-- The result unit reports that a queue that held 64 records has fallen below 64; the scheduler
dispatches if its view is FREE (R62, R97, R99). -/
def reportFall (before after : Nat) (s : State) : State :=
  if Config.queueCapacity ≤ before ∧ after < Config.queueCapacity then dispatchIfFree s else s

/-- The payload of READ_RESULTS: the summary word, then the records copied (R97, Table 11-4). -/
def readPayload (held : List Record) (copied : List Record) : List Word :=
  (BitVec.ofNat 8 held.length ++ (0 : BitVec 4) ++ BitVec.ofNat 4 copied.length)
    :: copied.flatMap recordWords

/-- The effect of READ_RESULTS: the oldest `k` records leave, the oldest min(n, count) of the rest are
copied, delivered becomes their number (R97). -/
def readResults (x : Port) (k n : Nat) (s : State) : Reply :=
  let q := resultQueue x s
  let held := q.records.drop k
  let copied := held.take n
  .answer .ok (readPayload held copied)
    (reportFall q.records.length held.length
      (setQueue x { q with records := held, delivered := copied.length } s))

/-- READ_RESULTS (R96, R97). -/
def readResultsCommand (x : Port) (args : List Word) (s : State) : Reply :=
  match args with
  | [k, n] =>
    if 8 < k.toNat ∨ n.toNat < 1 ∨ 8 < n.toNat then .refuse .badArgument
    else if (resultQueue x s).delivered < k.toNat then .refuse .badAck
    else readResults x k.toNat n.toNat s
  | _ => .refuse .badArgument

/-- READ_RESULTS. -/
def execReadResults (x : Port) (tag : Tag) (args : List Word) (s : State) :
    Host.Outcome State Fault Refusal :=
  .next (takeCommand x .readResults tag (readResultsCommand x args) s)

/-- FLUSH: the queue is emptied, the old gap counter returned; watermark and flags are unchanged
(R99). -/
def flushCommand (x : Port) (args : List Word) (s : State) : Reply :=
  match args with
  | [] =>
    let q := resultQueue x s
    .answer .ok [(0 : BitVec 8) ++ BitVec.ofNat 8 q.gap]
      (reportFall q.records.length 0
        (setQueue x { q with records := [], delivered := 0, gap := 0 } s))
  | _ => .refuse .badArgument

/-- FLUSH. -/
def execFlush (x : Port) (tag : Tag) (args : List Word) (s : State) :
    Host.Outcome State Fault Refusal :=
  .next (takeCommand x .flush tag (flushCommand x args) s)

/-- MARK (R101). -/
def markCommand (x : Port) (args : List Word) (s : State) : Reply :=
  match args with
  | [v] =>
    if queueCount x s < Config.queueCapacity then
      .answer .ok [] (appendNotice x (.mark v) s.tmb.counter s)
    else .refuse .full
  | _ => .refuse .badArgument

/-- MARK. -/
def execMark (x : Port) (tag : Tag) (args : List Word) (s : State) :
    Host.Outcome State Fault Refusal :=
  .next (takeCommand x .mark tag (markCommand x args) s)

/-- SET_WATERMARK (R102). -/
def setWatermarkCommand (x : Port) (args : List Word) (s : State) : Reply :=
  match args with
  | [w] =>
    if 1 ≤ w.toNat ∧ w.toNat ≤ 64 then
      let s1 := setQueue x { resultQueue x s with watermark := w.toNat } s
      .answer .ok [] (if w.toNat ≤ queueCount x s then raiseFlag x .results s1 else s1)
    else .refuse .badArgument
  | _ => .refuse .badArgument

/-- SET_WATERMARK. -/
def execSetWatermark (x : Port) (tag : Tag) (args : List Word) (s : State) :
    Host.Outcome State Fault Refusal :=
  .next (takeCommand x .setWatermark tag (setWatermarkCommand x args) s)

/-- The words of `m` snapshot entries from channel `f` on, those above 31 left out. -/
def snapshotPayload (s : State) (f : Nat) : Nat → List Word
  | 0 => []
  | m + 1 =>
    (if h : f < 32 then snapshotWords ⟨f, h⟩ (tget s.res.snapshot ⟨f, h⟩) else [])
      ++ snapshotPayload s (f + 1) m

/-- READ_SNAPSHOT (R107). -/
def readSnapshotCommand (args : List Word) (s : State) : Reply :=
  match args with
  | [f, m] =>
    if 31 < f.toNat ∨ m.toNat < 1 ∨ 8 < m.toNat ∨ 31 < f.toNat + m.toNat - 1 then
      .refuse .badArgument
    else .answer .ok (snapshotPayload s f.toNat m.toNat) s
  | _ => .refuse .badArgument

/-- READ_SNAPSHOT. -/
def execReadSnapshot (x : Port) (tag : Tag) (args : List Word) (s : State) :
    Host.Outcome State Fault Refusal :=
  .next (takeCommand x .readSnapshot tag (readSnapshotCommand args) s)

end Sys2Proof.Machine
end

