-- ==== Sys2Proof/Machine/Sequences.lean ====
section
/-! DEFINITION. DEFINE_SEQUENCE, DELETE_SEQUENCE, ENABLE, STOP, HALT, RUN, GET_SEQUENCE. -/

namespace Sys2Proof.Machine

/-! ### Defining -/

/-- A step of the list names an external channel owned by the other port (R42). -/
def anyForeign (x : Port) (steps : List SeqStep) (s : State) : Bool :=
  steps.any fun st => foreignTo x st.channel s

/-- A step of the list names an absorbed channel (R42). -/
def anyAbsorbed (steps : List SeqStep) (s : State) : Bool :=
  steps.any fun st => absorbed st.channel s

/-- A TRIGGERED definition needs the source (R42). -/
def sourceOwned (x : Port) (k : SeqKind) (s : State) : Bool :=
  match k with
  | .triggered n _ => tget s.trg.owner n == some x
  | .keyed => true
  | .continuous => true

/-- A TRIGGERED definition finds its source bound already (R42). -/
def sourceBound (k : SeqKind) (s : State) : Bool :=
  match k with
  | .triggered n _ => (tget s.trg.bound n).isSome
  | .keyed => false
  | .continuous => false

/-- The FREE entry with the lowest id (R43). -/
def lowestFree (s : State) : Option SeqId := allSeqs.find? fun id => (sequence id s).isNone

/-- The step store or the port's quota has no room for `n` more steps, or the port holds 12
sequences (R42). -/
def noRoom (x : Port) (n : Nat) (s : State) : Bool :=
  decide (Config.sequenceQuota ≤ sequencesHeld x s)
    || decide (Config.stepStore < s.seq.stepTotal + n)
    || decide (Config.stepQuota < s.seq.stepCount.get x + n)

/-- The binding of a new TRIGGERED sequence's source (R77). -/
def bindKind (k : SeqKind) (id : SeqId) (s : State) : State :=
  match k with
  | .triggered n _ => setBound n (some id) s
  | .keyed => s
  | .continuous => s

/-- A definition that is taken (R43). -/
def allocate (x : Port) (id : SeqId) (k : SeqKind) (steps : List SeqStep) (s : State) : State :=
  bindKind k id
    (s.setSeq
      { table := tset s.seq.table id (some ⟨x, k, steps, .defined, 0, 0, 0, 0⟩)
        stepTotal := s.seq.stepTotal + steps.length
        stepCount := s.seq.stepCount.set x (s.seq.stepCount.get x + steps.length) })

/-- The checks of DEFINE_SEQUENCE after its arguments, then the definition (R42, R43). -/
def checkedDefine (x : Port) (k : SeqKind) (steps : List SeqStep) (s : State) : Reply :=
  if !sourceOwned x k s then .refuse .notOwner
  else if anyForeign x steps s then .refuse .foreign
  else
    match lowestFree s with
    | none => .refuse .full
    | some id =>
      if noRoom x steps.length s then .refuse .full
      else if anyAbsorbed steps s then .refuse .wrongState
      else if sourceBound k s then .refuse .inUse
      else .answer .ok [numberWord id.val] (allocate x id k steps s)

/-- DEFINE_SEQUENCE (R42, R43): 4 to 19 arguments, so 1 to 16 steps. -/
def defineCommand (x : Port) (args : List Word) (s : State) : Reply :=
  match args with
  | kind :: source :: budget :: stepArgs =>
    if 1 ≤ stepArgs.length ∧ stepArgs.length ≤ 16 then
      match kindOf kind source budget, stepsOf stepArgs with
      | some k, some steps => checkedDefine x k steps s
      | _, _ => .refuse .badArgument
    else .refuse .badArgument
  | _ => .refuse .badArgument

/-- DEFINE_SEQUENCE. -/
def execDefineSequence (x : Port) (tag : Tag) (args : List Word) (s : State) :
    Host.Outcome State Fault Refusal :=
  .next (takeCommand x .defineSequence tag (defineCommand x args) s)

/-! ### Commands that name a sequence of the port -/

/-- A command whose one argument is a sequence id of the port's own: BAD_ARGUMENT above 15,
NOT_OWNER for a FREE entry or the other port's (R44 to R50). -/
def ownSequence (x : Port) (args : List Word) (s : State) (f : SeqId → Sequence → Reply) : Reply :=
  match args with
  | [w] =>
    match numberBelow 16 w with
    | none => .refuse .badArgument
    | some id =>
      match sequence id s with
      | none => .refuse .notOwner
      | some q => if q.owner = x then f id q else .refuse .notOwner
  | _ => .refuse .badArgument

/-- A DEFINED sequence becomes FREE: its steps return to the store and its source is unbound
(R50). -/
def freeSequence (x : Port) (id : SeqId) (q : Sequence) (s : State) : State :=
  unbindKind q.kind
    (s.setSeq
      { table := tset s.seq.table id none
        stepTotal := s.seq.stepTotal - q.steps.length
        stepCount := s.seq.stepCount.set x (s.seq.stepCount.get x - q.steps.length) })

/-- DELETE_SEQUENCE (R50). -/
def deleteCommand (x : Port) (args : List Word) (s : State) : Reply :=
  ownSequence x args s fun id q =>
    if q.state = .defined then .answer .ok [] (freeSequence x id q s) else .refuse .wrongState

/-- DELETE_SEQUENCE. -/
def execDeleteSequence (x : Port) (tag : Tag) (args : List Word) (s : State) :
    Host.Outcome State Fault Refusal :=
  .next (takeCommand x .deleteSequence tag (deleteCommand x args) s)

/-- The effect of ENABLE (R44): TRIGGERED and KEYED become ARMED at index 0; CONTINUOUS starts a
pass and, if the view is FREE, a dispatch follows (R58). -/
def enableSequence (id : SeqId) (q : Sequence) (s : State) : State :=
  let armed := setSequence id
    (some { q with state := .armed, index := 0, restarts := 0, misses := 0 }) s
  match q.kind with
  | .triggered _ _ => armed
  | .keyed => armed
  | .continuous => dispatchIfFree (setSequence id (some q.startPass) s)

/-- ENABLE (R44). -/
def enableCommand (x : Port) (args : List Word) (s : State) : Reply :=
  ownSequence x args s fun id q =>
    if anyForeign x q.steps s then .refuse .foreign
    else if q.state ≠ .defined then .refuse .wrongState
    else if anyAbsorbed q.steps s then .refuse .wrongState
    else .answer .ok [] (enableSequence id q s)

/-- ENABLE. -/
def execEnable (x : Port) (tag : Tag) (args : List Word) (s : State) :
    Host.Outcome State Fault Refusal :=
  .next (takeCommand x .enable tag (enableCommand x args) s)

/-- The effect of STOP by state (R46). -/
def stopSequence (id : SeqId) (q : Sequence) (s : State) : State :=
  match q.state with
  | .armed => setSequence id (some q.toDefined) s
  | .pending => setSequence id (some q.toDefined) (removeRequests id s)
  | .running => setSequence id (some { q with state := .stopping }) s
  | .stopping => s
  | .defined => s

/-- STOP (R46). -/
def stopCommand (x : Port) (args : List Word) (s : State) : Reply :=
  ownSequence x args s fun id q =>
    if q.state = .defined then .refuse .wrongState else .answer .ok [] (stopSequence id q s)

/-- STOP. -/
def execStop (x : Port) (tag : Tag) (args : List Word) (s : State) :
    Host.Outcome State Fault Refusal :=
  .next (takeCommand x .stop tag (stopCommand x args) s)

/-- The withdrawal that HALT asks of the scheduler (R48, step 1; R74). -/
def withdraw (id : SeqId) (st : SeqState) (s : State) : State :=
  match st with
  | .pending => removeRequests id s
  | .running => clearPasses id s
  | .stopping => clearPasses id s
  | .armed => s
  | .defined => s

/-- The effect of HALT (R48, R74): the scheduler drops the sequence, it becomes DEFINED with its step
index kept, its measurement in flight is abandoned, and SEQ_HALTED is appended. It is DEFINED before
the abandon order's dispatch, so that the dispatch does not choose it (assumption 13). -/
def haltSequence (x : Port) (id : SeqId) (q : Sequence) (s : State) : State :=
  let s1 := setSequence id (some { q.toDefined with restarts := 0 }) (withdraw id q.state s)
  let s2 := abandonWhere (fun m => m.ofSequence id) s1
  appendNotice x (.seqHalted id q.pass) s.tmb.counter s2

/-- HALT (R48). -/
def haltCommand (x : Port) (args : List Word) (s : State) : Reply :=
  ownSequence x args s fun id q =>
    if q.state = .defined then .refuse .wrongState else .answer .ok [] (haltSequence x id q s)

/-- HALT. -/
def execHalt (x : Port) (tag : Tag) (args : List Word) (s : State) :
    Host.Outcome State Fault Refusal :=
  .next (takeCommand x .halt tag (haltCommand x args) s)

/-- The effect of RUN: PENDING, with a prompt request (R45, R57). -/
def runSequence (x : Port) (id : SeqId) (q : Sequence) (s : State) : State :=
  promptRequest ⟨x, .sequence id⟩ (setSequence id (some { q with state := .pending }) s)

/-- RUN (R45); capacity is checked before the kind and the state. -/
def runCommand (x : Port) (args : List Word) (s : State) : Reply :=
  ownSequence x args s fun id q =>
    if promptFull x s then .refuse .full
    else if q.kind = .continuous then .refuse .wrongState
    else if q.state ≠ .armed then .refuse .wrongState
    else .answer .ok [] (runSequence x id q s)

/-- RUN. -/
def execRun (x : Port) (tag : Tag) (args : List Word) (s : State) :
    Host.Outcome State Fault Refusal :=
  .next (takeCommand x .run tag (runCommand x args) s)

/-- GET_SEQUENCE from either port (R51). -/
def getSequenceCommand (args : List Word) (s : State) : Reply :=
  match args with
  | [w] =>
    match numberBelow 16 w with
    | none => .refuse .badArgument
    | some id =>
      match sequence id s with
      | none => .answer .ok (freePayload id) s
      | some q => .answer .ok (sequencePayload id q (s.seq.stepCount.get q.owner)) s
  | _ => .refuse .badArgument

/-- GET_SEQUENCE. -/
def execGetSequence (x : Port) (tag : Tag) (args : List Word) (s : State) :
    Host.Outcome State Fault Refusal :=
  .next (takeCommand x .getSequence tag (getSequenceCommand args) s)

end Sys2Proof.Machine
end

