-- ==== Sys2Proof/Machine/Sessions.lean ====
section
/-! DEFINITION. Sessions, leases and reset by consent: OPEN, CLOSE, RENEW, SET_LEASE, RESET_DEVICE, DENY_RESET, LEASE_WARNING, LEASE_EXPIRY, CONSENT_WINDOW_EXPIRY. -/

namespace Sys2Proof.Machine

/-- A lease interval in ms, 10 to 60,000 (R126). -/
def leaseInRange (ms : Word) : Bool := decide (10 ≤ ms.toNat) && decide (ms.toNat ≤ 60000)

/-- The session of `x` opens with a lease that starts now (R127). -/
def startSession (x : Port) (ms : Word) (policy : RenewPolicy) (s : State) : State :=
  setSession x (.opened (leaseFrom ms policy s.tmb.counter)) s

/-- OPEN (R127). From CLOSED the flags and the mask become empty in the event; from LAPSED they are
kept (R166). -/
def openCommand (x : Port) (args : List Word) (s : State) : Reply :=
  match args with
  | [ms, pol] =>
    if leaseInRange ms then
      match policyOf pol with
      | none => .refuse .badArgument
      | some policy =>
        match session x s with
        | .opened _ => .refuse .wrongState
        | .closed =>
          .answer .ok [(sessionCode .closed).setWidth 16]
            (setFlagsMask x 0 0 (startSession x ms policy s))
        | .lapsed => .answer .ok [(sessionCode .lapsed).setWidth 16] (startSession x ms policy s)
    else .refuse .badArgument
  | _ => .refuse .badArgument

/-- OPEN. -/
def execOpenSession (x : Port) (tag : Tag) (args : List Word) (s : State) :
    Host.Outcome State Fault Refusal :=
  .next (takeCommand x .openSession tag (openCommand x args) s)

/-- CLOSE (R132). Where the commanded device reset follows, RESET_DONE is pending in place of the
OK. -/
def closeCommand (x : Port) (args : List Word) (s : State) : Reply :=
  match args with
  | [] =>
    if isAsked x s then .silent (endSession x .close s)
    else .answer .ok [] (endSession x .close s)
  | _ => .refuse .badArgument

/-- CLOSE. -/
def execCloseSession (x : Port) (tag : Tag) (args : List Word) (s : State) :
    Host.Outcome State Fault Refusal :=
  .next (takeCommand x .closeSession tag (closeCommand x args) s)

/-- RENEW: its only effect is the renewal, made when it is answered (R128). -/
def renewCommand (args : List Word) (s : State) : Reply :=
  match args with
  | [] => .answer .ok [] s
  | _ => .refuse .badArgument

/-- RENEW. -/
def execRenew (x : Port) (tag : Tag) (args : List Word) (s : State) :
    Host.Outcome State Fault Refusal :=
  .next (takeCommand x .renew tag (renewCommand args) s)

/-- SET_LEASE writes the interval; the renewal that follows reckons the new times (R129). -/
def setLeaseCommand (x : Port) (args : List Word) (s : State) : Reply :=
  match args with
  | [ms] =>
    if leaseInRange ms then
      match session x s with
      | .opened l => .answer .ok [] (setSession x (.opened { l with interval := ms }) s)
      | .closed => .refuse .noSession
      | .lapsed => .refuse .noSession
    else .refuse .badArgument
  | _ => .refuse .badArgument

/-- SET_LEASE. -/
def execSetLease (x : Port) (tag : Tag) (args : List Word) (s : State) :
    Host.Outcome State Fault Refusal :=
  .next (takeCommand x .setLease tag (setLeaseCommand x args) s)

/-- The consent window that a request of `x` opens now (R139). -/
def askConsent (x : Port) (s : State) : State :=
  raiseFlag (otherPort x) .resetAsked
    (setConsent (some ⟨x, s.tmb.counter + Config.consentWindow, sessionOpen x s⟩) s)

/-- RESET_DEVICE (R139). -/
def resetDeviceCommand (x : Port) (args : List Word) (s : State) : Reply :=
  match args with
  | [] =>
    match s.ses.consent with
    | none =>
      if sessionOpen (otherPort x) s then .answer .pending [] (askConsent x s)
      else .silent (deviceReset s)
    | some c => if c.asker = x then .refuse .wrongState else .silent (deviceReset s)
  | _ => .refuse .badArgument

/-- RESET_DEVICE. -/
def execResetDevice (x : Port) (tag : Tag) (args : List Word) (s : State) :
    Host.Outcome State Fault Refusal :=
  .next (takeCommand x .resetDevice tag (resetDeviceCommand x args) s)

/-- A request ends without a reset: the state returns to NONE and the requester's RESET_DENIED flag
is set (R140, R141). -/
def denyRequest (asker : Port) (s : State) : State :=
  raiseFlag asker .resetDenied (setConsent none s)

/-- DENY_RESET from the asked port (R140). -/
def denyResetCommand (x : Port) (args : List Word) (s : State) : Reply :=
  match args with
  | [] =>
    match s.ses.consent with
    | none => .refuse .wrongState
    | some c => if c.asker = x then .refuse .wrongState else .answer .ok [] (denyRequest c.asker s)
  | _ => .refuse .badArgument

/-- DENY_RESET. -/
def execDenyReset (x : Port) (tag : Tag) (args : List Word) (s : State) :
    Host.Outcome State Fault Refusal :=
  .next (takeCommand x .denyReset tag (denyResetCommand x args) s)

/-- The warning time of the lease of `x` is reached: the LEASE flag is set and the warning time is
used up (R130). Without an OPEN session whose warning stands, nothing is reached (assumptions 3
and 4). -/
def leaseWarning (x : Port) (s : State) : State :=
  match session x s with
  | .opened l =>
    match l.warning with
    | some _ => raiseFlag x .lease (setSession x (.opened { l with warning := none }) s)
    | none => s
  | .closed => s
  | .lapsed => s

/-- LEASE_WARNING. -/
def execLeaseWarning (x : Port) (s : State) : Host.Outcome State Fault Refusal :=
  .next (leaseWarning x s)

/-- The lease of `x` expires (R131): LAPSED, torn down, LEASE_LAPSED appended with the time of the
expiry; the commanded device reset follows if `x` was asked (R141). -/
def leaseExpiry (x : Port) (s : State) : State :=
  match session x s with
  | .opened l => endSession x (.lapse l.expiry) s
  | .closed => s
  | .lapsed => s

/-- LEASE_EXPIRY. -/
def execLeaseExpiry (x : Port) (s : State) : Host.Outcome State Fault Refusal :=
  .next (leaseExpiry x s)

/-- The consent window expires (R141). -/
def consentWindowExpiry (s : State) : State :=
  match s.ses.consent with
  | some c => denyRequest c.asker s
  | none => s

/-- CONSENT_WINDOW_EXPIRY. -/
def execConsentWindowExpiry (s : State) : Host.Outcome State Fault Refusal :=
  .next (consentWindowExpiry s)

end Sys2Proof.Machine
end

