-- ==== Sys2Proof/Machine/Triggers.lean ====
section
/-! DEFINITION. Trigger arrivals, LINE_TRANSITION, CADENCE_EXPIRY, SET_TRIGGER, SET_CADENCE, START_CADENCE, STOP_CADENCE. -/

namespace Sys2Proof.Machine

/-- The TRIGGERS_MISSED notice of an arrival at an ARMED sequence that holds misses (R85). -/
def reportMisses (id : SeqId) (q : Sequence) (arrival : Time) (s : State) : State :=
  if 0 < q.misses then appendNotice q.owner (.triggersMissed id q.pass q.misses) arrival s else s

/-- The latency budget of a sequence (R35). -/
def budgetOf : SeqKind → Word
  | .triggered _ b => b
  | .keyed => 0
  | .continuous => 0

/-- An arrival counted as missed, saturating at 255 (R84). -/
def Sequence.countMiss (q : Sequence) : Sequence := { q with misses := min 255 (q.misses + 1) }

/-- A trigger arrival at source `n` (R84): dropped, counted as a miss, or, at an ARMED sequence,
notice, then PENDING, then the urgent request. -/
def triggerArrival (n : SourceId) (arrival : Time) (s : State) : State :=
  match tget s.trg.bound n with
  | none => s
  | some id =>
    match sequence id s with
    | none => s
    | some q =>
      match q.state with
      | .defined => s
      | .armed =>
        urgentRequest id (budgetOf q.kind) arrival
          (setSequence id (some { q with state := .pending, misses := 0 })
            (reportMisses id q arrival s))
      | .pending => setSequence id (some q.countMiss) s
      | .running => setSequence id (some q.countMiss) s
      | .stopping => s

/-- Whether a transition to `level` is an active edge under a setting (R78). -/
def isActiveEdge (edge : EdgeSetting) (level : Level) : Bool :=
  match edge, level with
  | .rising, .high => true
  | .rising, .low => false
  | .falling, .low => true
  | .falling, .high => false
  | .both, _ => true

/-- A transition of trigger line `n` to `level` (R78): the reference level follows; on an owned
source an active edge is a trigger arrival at the present time. A level equal to the reference level
is no transition; while RESETN is active none is taken (assumptions 3 and 9). -/
def lineTransition (n : Fin 4) (level : Level) (s : State) : State :=
  let src := tget s.trg.line n
  if s.resetActive || src.level == level then s
  else
    let s1 := s.setTrg { s.trg with line := tset s.trg.line n { src with level := level } }
    if (tget s.trg.owner (lineSource n)).isSome && isActiveEdge src.edge level then
      triggerArrival (lineSource n) s.tmb.counter s1
    else s1

/-- LINE_TRANSITION. -/
def execLineTransition (n : Fin 4) (level : Level) (s : State) : Host.Outcome State Fault Refusal :=
  .next (lineTransition n level s)

/-- A RUNNING cadence timer reaches its next expiry (R80): the following one is scheduled on the grid
and the expiry is a trigger arrival at the scheduled time. A STOPPED timer does not fire
(assumptions 3 and 4). -/
def cadenceExpiry (n : Fin 4) (s : State) : State :=
  let t := tget s.trg.timer n
  match t.run with
  | .stopped => s
  | .running due =>
    triggerArrival (timerSource n) due
      (s.setTrg { s.trg with timer := tset s.trg.timer n { t with run := .running (due + t.period) } })

/-- CADENCE_EXPIRY. -/
def execCadenceExpiry (n : Fin 4) (s : State) : Host.Outcome State Fault Refusal :=
  .next (cadenceExpiry n s)

/-- SET_TRIGGER (R79). -/
def setTriggerCommand (x : Port) (args : List Word) (s : State) : Reply :=
  match args with
  | [src, e] =>
    match numberBelow 4 src, edgeOf e with
    | some n, some edge =>
      if tget s.trg.owner (lineSource n) ≠ some x then .refuse .notOwner
      else
        .answer .ok []
          (s.setTrg { s.trg with
            line := tset s.trg.line n { tget s.trg.line n with edge := edge } })
    | _, _ => .refuse .badArgument
  | _ => .refuse .badArgument

/-- SET_TRIGGER. -/
def execSetTrigger (x : Port) (tag : Tag) (args : List Word) (s : State) :
    Host.Outcome State Fault Refusal :=
  .next (takeCommand x .setTrigger tag (setTriggerCommand x args) s)

/-- A period argument of two words, 10 to 1,000,000 microseconds (R81, R171). -/
def periodOf (hi lo : Word) : Option Time :=
  let p : Time := hi ++ lo
  if 10 ≤ p.toNat ∧ p.toNat ≤ 1000000 then some p else none

/-- Cadence timer `n` replaced. -/
def setTimer (n : Fin 4) (t : CadenceTimer) (s : State) : State :=
  s.setTrg { s.trg with timer := tset s.trg.timer n t }

/-- SET_CADENCE (R81). -/
def setCadenceCommand (x : Port) (args : List Word) (s : State) : Reply :=
  match args with
  | [src, hi, lo] =>
    match timerOf src, periodOf hi lo with
    | some n, some p =>
      let t := tget s.trg.timer n
      if tget s.trg.owner (timerSource n) ≠ some x then .refuse .notOwner
      else
        match t.run with
        | .running _ => .refuse .wrongState
        | .stopped => .answer .ok [] (setTimer n { t with period := p } s)
    | _, _ => .refuse .badArgument
  | _ => .refuse .badArgument

/-- SET_CADENCE. -/
def execSetCadence (x : Port) (tag : Tag) (args : List Word) (s : State) :
    Host.Outcome State Fault Refusal :=
  .next (takeCommand x .setCadence tag (setCadenceCommand x args) s)

/-- START_CADENCE: the first expiry comes one period after the frame (R82). -/
def startCadenceCommand (x : Port) (args : List Word) (s : State) : Reply :=
  match args with
  | [src] =>
    match timerOf src with
    | none => .refuse .badArgument
    | some n =>
      let t := tget s.trg.timer n
      if tget s.trg.owner (timerSource n) ≠ some x then .refuse .notOwner
      else
        match t.run with
        | .running _ => .refuse .wrongState
        | .stopped =>
          .answer .ok [] (setTimer n { t with run := .running (s.tmb.counter + t.period) } s)
  | _ => .refuse .badArgument

/-- START_CADENCE. -/
def execStartCadence (x : Port) (tag : Tag) (args : List Word) (s : State) :
    Host.Outcome State Fault Refusal :=
  .next (takeCommand x .startCadence tag (startCadenceCommand x args) s)

/-- STOP_CADENCE: taken in either cadence state (R83). -/
def stopCadenceCommand (x : Port) (args : List Word) (s : State) : Reply :=
  match args with
  | [src] =>
    match timerOf src with
    | none => .refuse .badArgument
    | some n =>
      if tget s.trg.owner (timerSource n) ≠ some x then .refuse .notOwner
      else .answer .ok [] (setTimer n { tget s.trg.timer n with run := .stopped } s)
  | _ => .refuse .badArgument

/-- STOP_CADENCE. -/
def execStopCadence (x : Port) (tag : Tag) (args : List Word) (s : State) :
    Host.Outcome State Fault Refusal :=
  .next (takeCommand x .stopCadence tag (stopCadenceCommand x args) s)

end Sys2Proof.Machine
end

