-- ==== Sys2Proof/Machine/Trip.lean ====
section
/-! DEFINITION. TRIP_ACK, FORCE_TRIP, TRIP_STATUS and TRIPIN_CHANGE. -/

namespace Sys2Proof.Machine

/-- TRIP_ACK: the causes the port can vouch for are removed, and the latch state and cause set after
that are answered (R123). -/
def tripAckCommand (x : Port) (args : List Word) (s : State) : Reply :=
  match args with
  | [] =>
    let s1 := removeCauses (removableSet x s) s
    .answer .ok [tripAckWord s1.trp] s1
  | _ => .refuse .badArgument

/-- TRIP_ACK. -/
def execTripAck (x : Port) (tag : Tag) (args : List Word) (s : State) :
    Host.Outcome State Fault Refusal :=
  .next (takeCommand x .tripAck tag (tripAckCommand x args) s)

/-- FORCE_TRIP adds the cause HOST_x (R122). -/
def forceTripCommand (x : Port) (args : List Word) (s : State) : Reply :=
  match args with
  | [] => .answer .ok [] (addCauses (causeBit (.host x)) s)
  | _ => .refuse .badArgument

/-- FORCE_TRIP. -/
def execForceTrip (x : Port) (tag : Tag) (args : List Word) (s : State) :
    Host.Outcome State Fault Refusal :=
  .next (takeCommand x .forceTrip tag (forceTripCommand x args) s)

/-- TRIP_STATUS (R125). -/
def tripStatusCommand (x : Port) (args : List Word) (s : State) : Reply :=
  match args with
  | [] => .answer .ok [tripStatusWord s.trp, (removableSet x s).setWidth 16] s
  | _ => .refuse .badArgument

/-- TRIP_STATUS. -/
def execTripStatus (x : Port) (tag : Tag) (args : List Word) (s : State) :
    Host.Outcome State Fault Refusal :=
  .next (takeCommand x .tripStatus tag (tripStatusCommand x args) s)

/-- A level change of TRIPIN (R121): going active adds EXT, going inactive changes no cause. A level
equal to the one last taken is no change; while RESETN is active none is taken (assumptions 3
and 9). -/
def tripinChange (level : Level) (s : State) : State :=
  if s.resetActive || s.trp.tripin == tripinOf level then s
  else
    let s1 := s.setTrp { s.trp with tripin := tripinOf level }
    match tripinOf level with
    | .active => addCauses (causeBit .ext) s1
    | .inactive => s1

/-- TRIPIN_CHANGE. -/
def execTripinChange (level : Level) (s : State) : Host.Outcome State Fault Refusal :=
  .next (tripinChange level s)

end Sys2Proof.Machine
end

