-- ==== Sys2Proof/Machine/Dispatch.lean ====
section
/-! DEFINITION. One arm for each command of the opcode table. -/

namespace Sys2Proof.Machine

/-- The effect of a command on everything but the queue. -/
def exec (i : Instr) (s : State) : Host.Outcome State Fault Refusal :=
  match i with
  | .powerOn tpol lines => Sys2Proof.Machine.execPowerOn tpol lines s
  | .pinReset tpol => Sys2Proof.Machine.execPinReset tpol s
  | .endOfTrimLoad => Sys2Proof.Machine.execEndOfTrimLoad s
  | .frameError x words bits => Sys2Proof.Machine.execFrameError x words bits s
  | .unknownCommand x code tag args => Sys2Proof.Machine.execUnknownCommand x code tag args s
  | .discardedFrameEnd x => Sys2Proof.Machine.execDiscardedFrameEnd x s
  | .openSession x tag args => Sys2Proof.Machine.execOpenSession x tag args s
  | .closeSession x tag args => Sys2Proof.Machine.execCloseSession x tag args s
  | .renew x tag args => Sys2Proof.Machine.execRenew x tag args s
  | .setLease x tag args => Sys2Proof.Machine.execSetLease x tag args s
  | .resetDevice x tag args => Sys2Proof.Machine.execResetDevice x tag args s
  | .denyReset x tag args => Sys2Proof.Machine.execDenyReset x tag args s
  | .status x tag args => Sys2Proof.Machine.execStatus x tag args s
  | .ident x tag args => Sys2Proof.Machine.execIdent x tag args s
  | .repeatLast x tag args => Sys2Proof.Machine.execRepeatLast x tag args s
  | .ackEvents x tag args => Sys2Proof.Machine.execAckEvents x tag args s
  | .setAlertMask x tag args => Sys2Proof.Machine.execSetAlertMask x tag args s
  | .claim x tag args => Sys2Proof.Machine.execClaim x tag args s
  | .release x tag args => Sys2Proof.Machine.execRelease x tag args s
  | .setChannel x tag args => Sys2Proof.Machine.execSetChannel x tag args s
  | .getChannel x tag args => Sys2Proof.Machine.execGetChannel x tag args s
  | .defineSequence x tag args => Sys2Proof.Machine.execDefineSequence x tag args s
  | .deleteSequence x tag args => Sys2Proof.Machine.execDeleteSequence x tag args s
  | .enable x tag args => Sys2Proof.Machine.execEnable x tag args s
  | .stop x tag args => Sys2Proof.Machine.execStop x tag args s
  | .halt x tag args => Sys2Proof.Machine.execHalt x tag args s
  | .run x tag args => Sys2Proof.Machine.execRun x tag args s
  | .getSequence x tag args => Sys2Proof.Machine.execGetSequence x tag args s
  | .convertNow x tag args => Sys2Proof.Machine.execConvertNow x tag args s
  | .setTrigger x tag args => Sys2Proof.Machine.execSetTrigger x tag args s
  | .setCadence x tag args => Sys2Proof.Machine.execSetCadence x tag args s
  | .startCadence x tag args => Sys2Proof.Machine.execStartCadence x tag args s
  | .stopCadence x tag args => Sys2Proof.Machine.execStopCadence x tag args s
  | .readResults x tag args => Sys2Proof.Machine.execReadResults x tag args s
  | .flush x tag args => Sys2Proof.Machine.execFlush x tag args s
  | .mark x tag args => Sys2Proof.Machine.execMark x tag args s
  | .setWatermark x tag args => Sys2Proof.Machine.execSetWatermark x tag args s
  | .readSnapshot x tag args => Sys2Proof.Machine.execReadSnapshot x tag args s
  | .setMonitor x tag args => Sys2Proof.Machine.execSetMonitor x tag args s
  | .monitorOn x tag args => Sys2Proof.Machine.execMonitorOn x tag args s
  | .monitorOff x tag args => Sys2Proof.Machine.execMonitorOff x tag args s
  | .getMonitor x tag args => Sys2Proof.Machine.execGetMonitor x tag args s
  | .tripAck x tag args => Sys2Proof.Machine.execTripAck x tag args s
  | .forceTrip x tag args => Sys2Proof.Machine.execForceTrip x tag args s
  | .tripStatus x tag args => Sys2Proof.Machine.execTripStatus x tag args s
  | .readTime x tag args => Sys2Proof.Machine.execReadTime x tag args s
  | .readSync x tag args => Sys2Proof.Machine.execReadSync x tag args s
  | .checkClock x tag args => Sys2Proof.Machine.execCheckClock x tag args s
  | .readClockCheck x tag args => Sys2Proof.Machine.execReadClockCheck x tag args s
  | .lineTransition n level => Sys2Proof.Machine.execLineTransition n level s
  | .cadenceExpiry n => Sys2Proof.Machine.execCadenceExpiry n s
  | .tripinChange level => Sys2Proof.Machine.execTripinChange level s
  | .syncEdge level => Sys2Proof.Machine.execSyncEdge level s
  | .refclkEdge => Sys2Proof.Machine.execRefclkEdge s
  | .checkTickCountLimit => Sys2Proof.Machine.execCheckTickCountLimit s
  | .settleExpiry => Sys2Proof.Machine.execSettleExpiry s
  | .sampleCompletion raw => Sys2Proof.Machine.execSampleCompletion raw s
  | .leaseWarning x => Sys2Proof.Machine.execLeaseWarning x s
  | .leaseExpiry x => Sys2Proof.Machine.execLeaseExpiry x s
  | .consentWindowExpiry => Sys2Proof.Machine.execConsentWindowExpiry s
  | .frameBegin x => Sys2Proof.Machine.execFrameBegin x s
  | .resetnRelease lines => Sys2Proof.Machine.execResetnRelease lines s

end Sys2Proof.Machine
end

