-- ==== Sys2Proof/Machine/Timers.lean ====
section
/-! DEFINITION. One oscillator tick: the counter, the tick count of a clock check, and the timers that fall due (R144, R148; assumptions 5 and 6). -/

namespace Sys2Proof.Machine

/-- The timers of the part (00_scope, "Causes of activity"). -/
inductive TimerKind where
  | settle
  | cadence (n : Fin 4)
  | warning (x : Port)
  | lease (x : Port)
  | consent
  | checkLimit
  deriving DecidableEq, Repr

/-- Every timer. -/
def allTimers : List TimerKind :=
  [.settle] ++ allFours.map .cadence
    ++ [.warning .A, .warning .B, .lease .A, .lease .B, .consent, .checkLimit]

/-- The counter value at which a timer falls due, if it runs on the counter (R22, R80, R126,
R139). -/
def timerExpiry (k : TimerKind) (s : State) : Option Time :=
  match k with
  | .settle =>
    match s.cnv.state with
    | .settling _ t => some t
    | .sampling _ _ => none
    | .idle => none
    | .starting => none
  | .cadence n =>
    match (tget s.trg.timer n).run with
    | .running t => some t
    | .stopped => none
  | .warning x =>
    match session x s with
    | .opened l => l.warning
    | .closed => none
    | .lapsed => none
  | .lease x =>
    match session x s with
    | .opened l => some l.expiry
    | .closed => none
    | .lapsed => none
  | .consent => s.ses.consent.map (·.expiry)
  | .checkLimit => none

/-- Whether a timer is due: the counter stands at its expiry, or, for a clock check, the tick count
has reached 8191 (R150). -/
def timerDue (s : State) (k : TimerKind) : Bool :=
  match k with
  | .checkLimit => s.tmb.check.any fun c => decide (Config.tickLimit ≤ c.ticks)
  | _ => timerExpiry k s == some s.tmb.counter

/-- The event that a timer is. -/
def takeTimer (k : TimerKind) (s : State) : State :=
  match k with
  | .settle => settleExpiry s
  | .cadence n => cadenceExpiry n s
  | .warning x => leaseWarning x s
  | .lease x => leaseExpiry x s
  | .consent => consentWindowExpiry s
  | .checkLimit => checkTickCountLimit s

/-- The timers that are due. -/
def dueTimers (s : State) : List TimerKind := allTimers.filter (timerDue s)

/-- The due timers are taken one at a time, each seeing the state the one before it left. Where more
than one is due, which comes first is a free value (assumption 6). `fuel` bounds the number taken;
there are eleven timers, and a timer taken is not due again. -/
def takeDue : Nat → State → State
  | 0, s => s
  | fuel + 1, s =>
    match dueTimers s with
    | [] => s
    | [k] => takeDue fuel (takeTimer k s)
    | k :: k2 :: ks =>
      takeDue fuel
        (takeTimer
          ((k :: k2 :: ks).getD (Config.duePick s.choice % (k :: k2 :: ks).length) k)
          (s.setChoice (s.choice + 1)))

/-- The timebase at a tick: the counter rises every 16 ticks and the tick count of a running check
rises every tick, holding at 8191 (R144, R148). -/
def tickTimebase (t : Timebase) : Timebase :=
  { t with
    subTick := t.subTick + 1
    counter := if t.subTick = 15 then t.counter + 1 else t.counter
    check := t.check.map fun k => { k with ticks := min Config.tickLimit (k.ticks + 1) } }

/-- One oscillator tick. While RESETN is active nothing counts (R144). -/
def tick (s : State) : State :=
  if s.resetActive then s else takeDue allTimers.length (s.setTmb (tickTimebase s.tmb))

end Sys2Proof.Machine
end

