-- ==== Sys2Proof/Machine/Step.lean ====
section
/-! DEFINITION. The step: the command at the front of the queue, or one oscillator tick when no command waits. -/

namespace Sys2Proof.Machine

/-- One step: the command at the front of the queue acts on the state that holds the queue's rest;
with no command waiting one oscillator tick passes (assumption 5). -/
def step (s : State) : Host.Outcome State Fault Refusal :=
  match s.pending with
  | [] => .next (tick s)
  | c :: rest => exec c (s.setPending rest)

/-- `s` with the command that a table word spells put at the front of its queue; unchanged where the
word spells none (assumption 17). -/
def State.withFetchWord (s : State) (nbits w : Nat) : State :=
  match decodeTableWord nbits w with
  | some c => s.setPending (c :: s.pending)
  | none => s

end Sys2Proof.Machine
end

