-- ==== Sys2Proof/Safety.lean ====
section
/-! DEFINITION. The terms in which claims speak: when a port takes a frame, what a refusal and an answer leave, and the laws that every step keeps (R1, R109, R135, R169). -/

namespace Sys2Proof.Safety

open Sys2Proof.Machine

/-! ### Frames -/

/-- Port `x` takes a frame: RESETN is inactive and no reset has abandoned the frame in progress
(R153, R162). -/
def takesFrame (x : Port) (s : State) : Bool :=
  !s.resetActive && (hostPort x s).receiver != .discarding

/-- The trim load has ended (R158, check 3). -/
def started (s : State) : Bool := s.cnv.state != .starting

/-- Port `x` takes a frame, the trim load has ended and the session of `x` is OPEN. -/
def admitted (x : Port) (s : State) : Bool := takesFrame x s && started s && sessionOpen x s

/-- What a refused frame leaves: the frame over and the refusal pending, with the received tag and
no payload (R158). -/
def refused (x : Port) (st : Status) (tag : Tag) (s : State) : State :=
  fixResponse x ⟨st, tag, []⟩ (endFrame x s)

/-- What a command answered OK leaves after its effect `t`: the lease renewal that R128 gives the
command, and the response pending (R158, R160). -/
def answered (x : Port) (c : HostCommand) (tag : Tag) (payload : List Word) (t : State) : State :=
  fixResponse x ⟨.ok, tag, payload⟩ (renewAfter x c t)

/-- The refusal statuses of Table 10-1. -/
def isRefusal : Status → Bool
  | .ok => false
  | .pending => false
  | .resetDone => false
  | .frameError => true
  | .unknown => true
  | .notReady => true
  | .noSession => true
  | .badArgument => true
  | .notOwner => true
  | .owned => true
  | .foreign => true
  | .inUse => true
  | .full => true
  | .wrongState => true
  | .badAck => true

/-- The argument counts of Table 11-2. -/
def acceptedCount (c : HostCommand) (n : Nat) : Bool :=
  match c with
  | .defineSequence => decide (4 ≤ n) && decide (n ≤ 19)
  | .setMonitor => n == 7
  | .setChannel => n == 4
  | .setCadence => n == 3
  | .openSession | .claim | .release | .convertNow | .setTrigger | .readResults
  | .readSnapshot => n == 2
  | .setLease | .ackEvents | .setAlertMask | .getChannel | .deleteSequence | .enable | .stop
  | .halt | .run | .getSequence | .startCadence | .stopCadence | .mark | .setWatermark
  | .monitorOn | .monitorOff | .getMonitor => n == 1
  | .closeSession | .renew | .resetDevice | .denyReset | .status | .ident | .repeatLast
  | .flush | .tripAck | .forceTrip | .tripStatus | .readTime | .readSync | .checkClock
  | .readClockCheck => n == 0

/-- The commands that pass the session check in a state (R133). -/
def passesSession (v : Session) (c : HostCommand) : Bool :=
  match v with
  | .opened _ => true
  | .closed =>
    [HostCommand.openSession, .status, .ident, .repeatLast, .readSnapshot, .readTime, .readSync,
      .resetDevice].contains c
  | .lapsed =>
    [HostCommand.openSession, .status, .ident, .repeatLast, .readSnapshot, .readTime, .readSync,
      .resetDevice, .readResults, .flush].contains c

/-! ### Laws that every step keeps -/

/-- Law 1: the view is NOT_READY, FREE or BUSY as the converter is STARTING, IDLE or holds a
measurement, and the service record then names that measurement's producer (R1, R53). -/
def viewAgrees (s : State) : Prop :=
  match s.sch.view, inFlight s with
  | .notReady, none => s.cnv.state = .starting
  | .free, none => s.cnv.state = .idle
  | .busy r, some m =>
    r.port = m.port ∧
      match r.item with
      | .step k => m.step = some k
      | .immediate c => m.step = none ∧ m.channel = c
  | _, _ => False

/-- Law 2 and the ranges of R94: at most 64 records, delivered at most 8 and at most the count, the
gap counter at most 255, the watermark 1 to 64. -/
def queueBounded (q : ResultQueue) : Prop :=
  q.records.length ≤ 64 ∧ q.delivered ≤ 8 ∧ q.delivered ≤ q.records.length ∧ q.gap ≤ 255
    ∧ 1 ≤ q.watermark ∧ q.watermark ≤ 64

/-- Law 2 at both ports. -/
def queuesBounded (s : State) : Prop := ∀ x, queueBounded (resultQueue x s)

/-- The capacities of the prompt queue: 8 entries, 4 of a port (Law 3, R57). -/
def promptBounded (s : State) : Prop :=
  s.sch.prompt.length ≤ 8 ∧ ∀ x, (s.sch.prompt.countP fun e => e.port == x) ≤ 4

/-- Law 5: whoever owns a resource or a sequence has an OPEN session. -/
def ownersOpen (s : State) : Prop :=
  (∀ r x, claimOwner r s = some x → sessionOpen x s = true)
    ∧ ∀ id q, sequence id s = some q → sessionOpen q.owner s = true

/-- Law 7: the step store counts are the sums of the sequences' step counts, within their bounds. -/
def stepsCounted (s : State) : Prop :=
  s.seq.stepTotal = stepsHeld .A s + stepsHeld .B s
    ∧ (∀ x, s.seq.stepCount.get x = stepsHeld x s)
    ∧ s.seq.stepTotal ≤ 128 ∧ ∀ x, s.seq.stepCount.get x ≤ 96

/-- Law 10: the latch is ARMED exactly when its cause set is empty, and the TRIP line is at its run
level exactly then (Table 7-2). -/
def latchAgrees (s : State) : Prop :=
  (s.trp.state = .armed ↔ s.trp.causes = 0)
    ∧ s.trp.line = match s.trp.state with
      | .armed => runLevel s.trp.polarity
      | .tripped => stopLevel s.trp.polarity

/-- ALERT follows flags and mask at both ports (R169). -/
def alertAgrees (s : State) : Prop :=
  ∀ x, (hostPort x s).alert = ((hostPort x s).flags &&& (hostPort x s).mask != 0)

/-- The owner copies agree with the claim table, and an unowned external channel holds its default
descriptor (R4, R135). -/
def copiesAgree (s : State) : Prop :=
  (∀ c, (tget s.cfe c).owner = tget s.ses.claims.channel c)
    ∧ (∀ i, (monitor i s).owner = tget s.ses.claims.monitor i)
    ∧ (∀ n, tget s.trg.owner n = tget s.ses.claims.source n)
    ∧ ∀ c, (tget s.cfe c).owner = none → tget s.cfe c = defaultDescriptor

/-- The ranges of a monitor's count and outside count in each state (R109, R113). -/
def monitorSane (m : Monitor) : Prop :=
  m.count ≤ 15 ∧
    match m.state with
    | .off => m.outside = 0
    | .within => 1 ≤ m.count ∧ m.outside = 0
    | .counting => 1 ≤ m.outside ∧ m.outside < m.count
    | .violated => 1 ≤ m.count ∧ m.outside = m.count

/-- Every monitor is in its ranges, and an unowned monitor holds its released values (R109). -/
def monitorsSane (s : State) : Prop :=
  (∀ i, monitorSane (monitor i s)) ∧ ∀ i, (monitor i s).owner = none → monitor i s = releasedMonitor

/-- How many requests of a sequence wait in the urgent and prompt queues together. -/
def requestsOf (id : SeqId) (s : State) : Nat :=
  (s.sch.urgent.countP fun e => e.seq == id) + (s.sch.prompt.countP fun e => e.item == .sequence id)

/-- Laws 3 and 4: a PENDING sequence has exactly one entry in the two queues together, any other has
none, and a sequence's prompt entry is its owner's. -/
def requestsAgree (s : State) : Prop :=
  (∀ id, requestsOf id s
      = if (sequence id s).any (fun q => q.state == .pending) = true then 1 else 0)
    ∧ ∀ e id, e ∈ s.sch.prompt → e.item = .sequence id →
      (sequence id s).any (fun q => q.owner == e.port) = true

/-- The sequence `id` is one of port `x`, in RUNNING or STOPPING (R57). -/
def liveSequence (x : Port) (id : SeqId) (s : State) : Prop :=
  ∃ q, sequence id s = some q ∧ q.owner = x ∧ (q.state = .running ∨ q.state = .stopping)

/-- The sequence `id` is not CONTINUOUS; CONTINUOUS work makes no request and has no active pass
(R55). -/
def madeByRequest (id : SeqId) (s : State) : Prop :=
  ∀ q, sequence id s = some q → q.kind ≠ .continuous

/-- What the second half of Law 4 rests on: the sequences of the two active passes and of the
measurement in flight are RUNNING or STOPPING and of the pass's or measurement's port; the two
passes are of different sequences and of no CONTINUOUS one; a step ordered in the URGENT or PROMPT
class is one of the active pass of that class; and no CONTINUOUS sequence is ARMED or PENDING (R55,
R57, R59, R60). -/
def passesAgree (s : State) : Prop :=
  (∀ p, s.sch.activeUrgent = some p → liveSequence p.owner p.seq s ∧ madeByRequest p.seq s)
    ∧ (∀ x id, s.sch.activePrompt = some ⟨x, .sequence id⟩ →
      liveSequence x id s ∧ madeByRequest id s ∧ ∀ p, s.sch.activeUrgent = some p → p.seq ≠ id)
    ∧ (∀ m k, inFlight s = some m → m.step = some k → liveSequence m.port k.seq s)
    ∧ (∀ r k, s.sch.view = .busy r → r.item = .step k →
      match r.cls with
      | .urgent => ∃ p, s.sch.activeUrgent = some p ∧ p.seq = k.seq
      | .prompt => ∃ x, s.sch.activePrompt = some ⟨x, .sequence k.seq⟩
      | .background => True)
    ∧ ∀ id q, sequence id s = some q → q.kind = .continuous → q.state ≠ .armed ∧ q.state ≠ .pending

/-- Law 6: the channels named by enabled sequences and watched by ON monitors are neither owned by
the other port nor absorbed. -/
def channelsHeld (s : State) : Prop :=
  (∀ id q st, sequence id s = some q → q.state.enabled = true → st ∈ q.steps →
      foreignTo q.owner st.channel s = false ∧ absorbed st.channel s = false)
    ∧ ∀ i x, (monitor i s).state ≠ .off → (monitor i s).owner = some x →
      foreignTo x (monitor i s).channel s = false ∧ absorbed (monitor i s).channel s = false

/-- Law 8: a source is bound to a sequence exactly when that sequence is TRIGGERED on it, and the
source is then owned by the sequence's owner. -/
def bindingsAgree (s : State) : Prop :=
  (∀ n id, tget s.trg.bound n = some id ↔
      ∃ q budget, sequence id s = some q ∧ q.kind = .triggered n budget)
    ∧ ∀ n id q, tget s.trg.bound n = some id → sequence id s = some q →
      tget s.trg.owner n = some q.owner

/-- Law 9: restart counts lie within 0 to 3, and are 0 outside CONTINUOUS sequences. -/
def restartsSane (s : State) : Prop :=
  ∀ id q, sequence id s = some q → q.restarts ≤ 3 ∧ (q.kind ≠ .continuous → q.restarts = 0)

/-- A background measurement in flight is a step of a CONTINUOUS sequence in RUNNING or STOPPING of
its port, which is below 3 restarts unless the measurement is protected; only an unprotected
background measurement has a cut pending (R61, R64, R66). -/
def cutsAgree (s : State) : Prop :=
  ∀ r, s.sch.view = .busy r →
    (r.cls = .background → ∃ k q, r.item = .step k ∧ sequence k.seq s = some q ∧ q.owner = r.port
      ∧ q.candidate = true ∧ (r.shielded = false → q.restarts < 3))
    ∧ ∀ m, inFlight s = some m → m.cutPending = true → r.cls = .background ∧ r.shielded = false

end Sys2Proof.Safety
end

