-- ==== Sys2Proof/Certificates/Slice0/Obligations.lean ====
section
/-! DEFINITION. The statements for the provers. -/

open Sys2Proof Sys2Proof.Machine Sys2Proof.Safety

/-! ### The step, the queue and the words of a frame -/

/-- A step takes the command at the front of the queue and runs it on the queue's rest. With no
command waiting one oscillator tick passes, which is the model's choice (assumption 5). -/
def Obligations.StepRunsFrontCommand : Prop :=
  (∀ (c : Instr) (rest : List Instr) (s : State),
    s.pending = c :: rest → step s = exec c (s.setPending rest))
  ∧ ∀ s : State, s.pending = [] → step s = .next (tick s)

/-- No command changes the queue of waiting commands, nor the model's choice counter. -/
def Obligations.CommandsKeepQueue : Prop :=
  ∀ (i : Instr) (s t : State), exec i s = .next t → t.pending = s.pending ∧ t.choice = s.choice

/-- The words a host sends for a command, with any filler after them, are read back as that
command's row with every tag and every list of at most 31 arguments (R155). -/
def Obligations.FrameRoundTrip : Prop :=
  ∀ (x : Port) (c : HostCommand) (tag : Tag) (args filler : List Word), args.length ≤ 31 →
    decodeFrame x (encodeFrame c tag args ++ filler) 0 = commandRow x c tag args

/-- R157. A frame is a frame error exactly in the three cases of the table; it then changes nothing
but the pending response, which is FRAME_ERROR with the received header's tag, or tag 0 where word 0
was not received whole, and the lease is not renewed. A frame that passes the frame check with a
code outside Table 11-2 is an unknown command, and is refused with UNKNOWN in every converter and
session state (R158, check 2). -/
def Obligations.FramesWithoutCommand : Prop :=
  ((∀ (x : Port) (words : List Word) (bits : BitVec 4),
     decodeFrame x words bits = .frameError x words bits ↔
       bits ≠ 0 ∨ words.length < 2
         ∨ words.length < (headerCount (words.getD 0 0)).toNat + 2
         ∨ words.getD ((headerCount (words.getD 0 0)).toNat + 1) 0
             ≠ crc16 (words.take ((headerCount (words.getD 0 0)).toNat + 1)))
   ∧ ∀ (x : Port) (words : List Word) (bits : BitVec 4) (s : State), takesFrame x s = true →
     exec (.frameError x words bits) s
       = .next (fixResponse x ⟨.frameError, (words.head?.map headerTag).getD 0, []⟩ (endFrame x s)))
  ∧ ((∀ (x : Port) (code : BitVec 7) (tag : Tag) (args filler : List Word),
       (∀ c, commandCode c ≠ code) → args.length ≤ 31 →
         decodeFrame x (commandFrame code tag args ++ filler) 0 = .unknownCommand x code tag args)
     ∧ ∀ (x : Port) (code : BitVec 7) (tag : Tag) (args : List Word) (s : State),
       takesFrame x s = true →
         exec (.unknownCommand x code tag args) s = .next (refused x .unknown tag s))

/-- In STARTING every command but STATUS, IDENT and REPEAT is refused with NOT_READY, whatever the
session and the arguments (R158, check 3). A command that the port's session state does not admit
(R133) is refused with NO_SESSION, whatever its arguments. A command with an argument count that
Table 11-2 does not give it is refused with BAD_ARGUMENT once it has passed the start-state and
session checks; STATUS, IDENT and REPEAT, which pass both in every converter and session state, are
so refused with any argument, in STARTING too (R158, R159, R161, R163, R164). -/
def Obligations.CheckOrder : Prop :=
  (∀ (x : Port) (c : HostCommand) (tag : Tag) (args : List Word) (s : State),
     takesFrame x s = true → s.cnv.state = .starting →
     c ≠ .status → c ≠ .ident → c ≠ .repeatLast →
       exec (commandRow x c tag args) s = .next (refused x .notReady tag s))
  ∧ (∀ (x : Port) (c : HostCommand) (tag : Tag) (args : List Word) (s : State),
       takesFrame x s = true → started s = true → passesSession (session x s) c = false →
         exec (commandRow x c tag args) s = .next (refused x .noSession tag s))
  ∧ (∀ (x : Port) (c : HostCommand) (tag : Tag) (args : List Word) (s : State),
       takesFrame x s = true → started s = true → passesSession (session x s) c = true →
       acceptedCount c args.length = false →
         exec (commandRow x c tag args) s = .next (refused x .badArgument tag s))
  ∧ (∀ (x : Port) (c : HostCommand) (tag : Tag) (args : List Word) (s : State),
       takesFrame x s = true → c = .status ∨ c = .ident ∨ c = .repeatLast → args ≠ [] →
         exec (commandRow x c tag args) s = .next (refused x .badArgument tag s))

/-- Whatever a command's port, arguments and state: if the response it leaves is a refusal, the
refusal with the received tag is all it changed. REPEAT, which leaves an earlier response in place,
is the exception (R158, R161). -/
def Obligations.RefusalsChangeNothing : Prop :=
  ∀ (x : Port) (c : HostCommand) (tag : Tag) (args : List Word) (s : State),
    takesFrame x s = true → c ≠ .repeatLast →
    ∃ t, exec (commandRow x c tag args) s = .next t ∧
      (isRefusal (hostPort x t).response.status = true →
        t = refused x (hostPort x t).response.status tag s)

/-- A command of port `x` that is answered OK or PENDING in an OPEN session renews the lease from
the present counter under RENEW_ANY, and under either policy for RENEW and SET_LEASE; otherwise the
lease stays as it was. CLOSE ends the session and REPEAT fixes no response (R126, R128). -/
def Obligations.RenewalByAnswer : Prop :=
  ∀ (x : Port) (c : HostCommand) (tag : Tag) (args : List Word) (s t : State) (l : Lease),
    takesFrame x s = true → session x s = .opened l → c ≠ .repeatLast → c ≠ .closeSession →
    exec (commandRow x c tag args) s = .next t →
    (hostPort x t).response.status = .ok ∨ (hostPort x t).response.status = .pending →
      ∃ m, session x t = .opened m ∧
        if l.policy = .renewAny ∨ c = .renew ∨ c = .setLease then
          m.policy = l.policy ∧ m.lastRenewal = s.tmb.counter
            ∧ m.warning = some (s.tmb.counter + m.interval.setWidth 32 * 500)
            ∧ m.expiry = s.tmb.counter + m.interval.setWidth 32 * 1000
            ∧ (c ≠ .setLease → m.interval = l.interval)
        else m = l

/-- Select going active at an IDLE receiver changes the receiver and data-out alone; the release of
select on an abandoned frame returns the receiver to IDLE and changes nothing else. While RESETN is
active a port takes no frame, and in DISCARDING no command is judged; that a command row then stands
for the release is the model's choice (R153, R154, R162; assumption 23). -/
def Obligations.FrameReceiver : Prop :=
  (∀ (x : Port) (s : State), s.resetActive = false → (hostPort x s).receiver = .idle →
    exec (.frameBegin x) s
      = .next (setHostPort x { hostPort x s with
          receiver := .receiving [], dataOut := .response (hostPort x s).response } s))
  ∧ (∀ (x : Port) (s : State), s.resetActive = false → (hostPort x s).receiver = .discarding →
    exec (.discardedFrameEnd x) s
      = .next (setHostPort x { hostPort x s with receiver := .idle, dataOut := .undriven } s))
  ∧ (∀ (x : Port) (c : HostCommand) (tag : Tag) (args : List Word) (s : State),
    s.resetActive = true → exec (commandRow x c tag args) s = .next s)
  ∧ ∀ (x : Port) (c : HostCommand) (tag : Tag) (args : List Word) (s : State),
    s.resetActive = false → (hostPort x s).receiver = .discarding →
      exec (commandRow x c tag args) s
        = .next (setHostPort x { hostPort x s with receiver := .idle, dataOut := .undriven } s)

/-- Word by word, data-out carries the header of the pending response, its payload, the CRC-16 of
both and then filler; in an abandoned frame it carries filler (R154, R160, R162). -/
def Obligations.DataOutWords : Prop :=
  (∀ (r : Response), ∃ h : Word,
    h.extractLsb' 10 6 = statusCode r.status ∧ h.extractLsb' 6 4 = r.tag
      ∧ h.extractLsb' 0 6 = BitVec.ofNat 6 r.payload.length
      ∧ dataOutWord (.response r) 0 = some h
      ∧ (∀ i, i < r.payload.length → dataOutWord (.response r) (i + 1) = r.payload[i]?)
      ∧ dataOutWord (.response r) (r.payload.length + 1) = some (crc16 (h :: r.payload))
      ∧ ∀ i, r.payload.length + 2 ≤ i → dataOutWord (.response r) i = some 0xFFFF)
  ∧ ∀ i, dataOutWord .filler i = some 0xFFFF

/-! ### Resets and the trim load -/

/-- What POWER_ON leaves in every block, whatever the state before it (R16, R18, R36, R54, R88, R94,
R103, R109, R119, R121, R126, R135, R139, R144, R146, R148, R153, R162). That the oscillator tick
within the microsecond is then 0 is the model's choice (assumption 16). -/
def Obligations.PowerOnState : Prop :=
  ∀ (tpol : Level) (l : LineLevels) (s : State), ∃ t, exec (.powerOn tpol l) s = .next t
    ∧ (∀ c, tget t.cfe c = ⟨.bipolar10V, .single, 10, none⟩)
    ∧ t.cnv.state = .starting ∧ t.cnv.trimState = .trimFault
    ∧ (∀ i, tget t.cnv.trim i = ⟨32768, 0⟩) ∧ t.cnv.store = s.cnv.store
    ∧ (∀ id, sequence id t = none) ∧ t.seq.stepTotal = 0 ∧ t.seq.stepCount = ⟨0, 0⟩
    ∧ t.sch = ⟨.notReady, [], [], none, none, .A, ⟨15, 15⟩⟩
    ∧ (∀ n, tget t.trg.owner n = none ∧ tget t.trg.bound n = none)
    ∧ (tget t.trg.line 0 = ⟨.rising, l.trg0⟩ ∧ tget t.trg.line 1 = ⟨.rising, l.trg1⟩
      ∧ tget t.trg.line 2 = ⟨.rising, l.trg2⟩ ∧ tget t.trg.line 3 = ⟨.rising, l.trg3⟩)
    ∧ (∀ n, tget t.trg.timer n = ⟨1000, .stopped⟩)
    ∧ (∀ x, resultQueue x t = ⟨[], 0, 0, 16⟩)
    ∧ (∀ c, tget t.res.snapshot c = ⟨0, none⟩)
    ∧ (∀ i, monitor i t = ⟨none, 0, 0, 0, 0, 0, .alert, .off, 0⟩)
    ∧ t.trp = ⟨.tripped, if l.tripin = .low then 0x003 else 0x001,
        if l.tripin = .low then .active else .inactive, tpol, tpol⟩
    ∧ (∀ x, session x t = .closed) ∧ (∀ r, claimOwner r t = none) ∧ t.ses.consent = none
    ∧ t.tmb = ⟨0, 0, 0, 0, l.sync, none, .none, 0, 0⟩
    ∧ (∀ x, hostPort x t = ⟨if (match x with | .A => l.selectA | .B => l.selectB) = true
        then .discarding else .idle,
        if (match x with | .A => l.selectA | .B => l.selectB) = true then .filler else .undriven,
        ⟨.resetDone, 0, [0]⟩, 0, 0, false⟩)
    ∧ t.resetActive = false

/-- A pin reset abandons all work: from any state RESETN going active leaves the converter STARTING,
the latch TRIPPED with the line at the stop level of the sampled strap and both ports idle, and the
release then leaves exactly what POWER_ON from the same state leaves (R18, R20, R32, R119, R162).
That the receivers are IDLE while RESETN is active is the model's choice (assumption 29). -/
def Obligations.PinResetEqualsPowerOn : Prop :=
  ∀ (tpol : Level) (s : State), ∃ p, exec (.pinReset tpol) s = .next p
    ∧ p.resetActive = true ∧ p.cnv.state = .starting ∧ p.trp.state = .tripped
    ∧ p.trp.causes = 0x001 ∧ p.trp.line = tpol
    ∧ (∀ x, (hostPort x p).receiver = .idle ∧ (hostPort x p).alert = false)
    ∧ ∀ l : LineLevels, ∃ t, exec (.resetnRelease l) p = .next t
      ∧ exec (.powerOn tpol l) s = .next t

/-- The end of the trim load with no work requested: on a match of the check word the table takes
the eight values of the store and is TRIM_VALID, otherwise it is at identity with TRIM_FAULT; the
converter is IDLE, the view FREE, and nothing else changes (R19, R54). -/
def Obligations.TrimLoadEnds : Prop :=
  ∀ (s : State), s.cnv.state = .starting → s.resetActive = false →
    s.sch = ⟨.notReady, [], [], none, none, .A, ⟨15, 15⟩⟩ → (∀ id, sequence id s = none) →
    ∃ c, exec .endOfTrimLoad s
        = .next ((s.setCnv c).setSch ⟨.free, [], [], none, none, .A, ⟨15, 15⟩⟩)
      ∧ c.state = .idle ∧ c.store = s.cnv.store
      ∧ if crc16 (s.cnv.store.toList.take 8) = tget s.cnv.store 8 then
          c.trimState = .trimValid
            ∧ tget c.trim 0 = ⟨tget s.cnv.store 0, tget s.cnv.store 1⟩
            ∧ tget c.trim 1 = ⟨tget s.cnv.store 2, tget s.cnv.store 3⟩
            ∧ tget c.trim 2 = ⟨tget s.cnv.store 4, tget s.cnv.store 5⟩
            ∧ tget c.trim 3 = ⟨tget s.cnv.store 6, tget s.cnv.store 7⟩
        else c.trimState = .trimFault ∧ ∀ i, tget c.trim i = ⟨32768, 0⟩

/-- What a commanded device reset keeps and what it returns to reset values, from any state; a port
with a frame in progress goes to DISCARDING with filler on data-out, and an idle one stays IDLE with
data-out not driven (R142, R16, R32, R36, R54, R88, R94, R103, R109, R119, R153, R162). -/
def Obligations.CommandedResetState : Prop :=
  ∀ (s : State),
    ((deviceReset s).cnv = ⟨.idle, s.cnv.trim, s.cnv.trimState, s.cnv.store⟩
      ∧ (deviceReset s).trp = s.trp
      ∧ (∀ n, (tget (deviceReset s).trg.line n).level = (tget s.trg.line n).level)
      ∧ (deviceReset s).tmb = { s.tmb with check := none })
    ∧ (∀ c, tget (deviceReset s).cfe c = ⟨.bipolar10V, .single, 10, none⟩)
    ∧ (∀ id, sequence id (deviceReset s) = none)
    ∧ (deviceReset s).seq.stepTotal = 0 ∧ (deviceReset s).seq.stepCount = ⟨0, 0⟩
    ∧ (deviceReset s).sch = ⟨.free, [], [], none, none, .A, ⟨15, 15⟩⟩
    ∧ (∀ n, tget (deviceReset s).trg.owner n = none ∧ tget (deviceReset s).trg.bound n = none)
    ∧ (∀ n, (tget (deviceReset s).trg.line n).edge = .rising)
    ∧ (∀ n, tget (deviceReset s).trg.timer n = ⟨1000, .stopped⟩)
    ∧ (∀ x, resultQueue x (deviceReset s) = ⟨[], 0, 0, 16⟩)
    ∧ (∀ c, tget (deviceReset s).res.snapshot c = ⟨0, none⟩)
    ∧ (∀ i, monitor i (deviceReset s) = ⟨none, 0, 0, 0, 0, 0, .alert, .off, 0⟩)
    ∧ (∀ x, session x (deviceReset s) = .closed) ∧ (∀ r, claimOwner r (deviceReset s) = none)
    ∧ (deviceReset s).ses.consent = none
    ∧ ∀ x, (hostPort x (deviceReset s)).response = ⟨.resetDone, 0, [1]⟩
      ∧ (hostPort x (deviceReset s)).flags = 0 ∧ (hostPort x (deviceReset s)).mask = 0
      ∧ (hostPort x (deviceReset s)).alert = false
      ∧ (hostPort x (deviceReset s)).receiver
        = (if (hostPort x s).receiver = .idle then .idle else .discarding)
      ∧ (hostPort x (deviceReset s)).dataOut
        = (if (hostPort x s).receiver = .idle then .undriven else .filler)

/-- RESET_DEVICE by consent state and the other port's session (R139, Law 11): reset at once,
PENDING with a window of 250 ms and the other port's RESET_ASKED flag, reset by consent, or
WRONG_STATE. R140. DENY_RESET. -/
def Obligations.ResetRequests : Prop :=
  (∀ (x : Port) (tag : Tag) (s : State), takesFrame x s = true → started s = true →
     (s.ses.consent = none → sessionOpen (otherPort x) s = false →
       exec (.resetDevice x tag []) s = .next (deviceReset (endFrame x s)))
     ∧ (s.ses.consent = none → sessionOpen (otherPort x) s = true →
       exec (.resetDevice x tag []) s
         = .next (fixResponse x ⟨.pending, tag, []⟩ (renewAfter x .resetDevice
             (raiseFlag (otherPort x) .resetAsked
               ((endFrame x s).setSes { s.ses with
                 consent := some ⟨x, s.tmb.counter + 250000, sessionOpen x s⟩ })))))
     ∧ ∀ c, s.ses.consent = some c →
       (c.asker = otherPort x →
         exec (.resetDevice x tag []) s = .next (deviceReset (endFrame x s)))
       ∧ (c.asker = x → exec (.resetDevice x tag []) s = .next (refused x .wrongState tag s)))
  ∧ (∀ (x : Port) (tag : Tag) (s : State), takesFrame x s = true → started s = true →
       (sessionOpen x s = false →
         exec (.denyReset x tag []) s = .next (refused x .noSession tag s))
       ∧ (sessionOpen x s = true →
         (∀ c, s.ses.consent = some c → c.asker = otherPort x →
           exec (.denyReset x tag []) s
             = .next (answered x .denyReset tag []
                 (raiseFlag (otherPort x) .resetDenied
                   ((endFrame x s).setSes { s.ses with consent := none }))))
         ∧ ((s.ses.consent = none ∨ ∃ c, s.ses.consent = some c ∧ c.asker = x) →
           exec (.denyReset x tag []) s = .next (refused x .wrongState tag s))))

/-! ### Sessions -/

/-- OPEN: from CLOSED with flags and mask emptied, from LAPSED with both kept, with a lease that
starts at the frame; refused with WRONG_STATE in OPEN and with BAD_ARGUMENT for an interval outside
10 to 60,000 ms or an undefined policy (R126, R127, R166). RENEW and SET_LEASE: the lease is
reckoned anew from the frame, under either policy, with the interval kept or replaced; SET_LEASE is
refused with BAD_ARGUMENT outside 10 to 60,000 ms (R128, R129). -/
def Obligations.OpenRenewSetLease : Prop :=
  (∀ (x : Port) (tag : Tag) (ms pol : Word) (s : State), takesFrame x s = true → started s = true →
     (ms.toNat < 10 ∨ 60000 < ms.toNat ∨ 2 ≤ pol.toNat →
       exec (.openSession x tag [ms, pol]) s = .next (refused x .badArgument tag s))
     ∧ (10 ≤ ms.toNat → ms.toNat ≤ 60000 → pol.toNat < 2 →
       ∀ l : Lease, l = ⟨ms, if pol = 0 then .renewAny else .renewExplicit, s.tmb.counter,
           some (s.tmb.counter + ms.setWidth 32 * 500), s.tmb.counter + ms.setWidth 32 * 1000⟩ →
       (session x s = .closed →
         exec (.openSession x tag [ms, pol]) s
           = .next (fixResponse x ⟨.ok, tag, [0]⟩
               (setFlagsMask x 0 0 (setSession x (.opened l) (endFrame x s)))))
       ∧ (session x s = .lapsed →
         exec (.openSession x tag [ms, pol]) s
           = .next (fixResponse x ⟨.ok, tag, [2]⟩ (setSession x (.opened l) (endFrame x s))))
       ∧ (sessionOpen x s = true →
         exec (.openSession x tag [ms, pol]) s = .next (refused x .wrongState tag s))))
  ∧ (∀ (x : Port) (tag : Tag) (ms : Word) (l : Lease) (s : State), takesFrame x s = true →
       started s = true → session x s = .opened l →
       exec (.renew x tag []) s
         = .next (fixResponse x ⟨.ok, tag, []⟩ (setSession x (.opened ⟨l.interval, l.policy,
             s.tmb.counter, some (s.tmb.counter + l.interval.setWidth 32 * 500),
             s.tmb.counter + l.interval.setWidth 32 * 1000⟩) (endFrame x s)))
       ∧ (10 ≤ ms.toNat → ms.toNat ≤ 60000 →
         exec (.setLease x tag [ms]) s
           = .next (fixResponse x ⟨.ok, tag, []⟩ (setSession x (.opened ⟨ms, l.policy,
               s.tmb.counter, some (s.tmb.counter + ms.setWidth 32 * 500),
               s.tmb.counter + ms.setWidth 32 * 1000⟩) (endFrame x s))))
       ∧ (ms.toNat < 10 ∨ 60000 < ms.toNat →
         exec (.setLease x tag [ms]) s = .next (refused x .badArgument tag s)))

/-- CLOSE in an OPEN session: the session is CLOSED, the port torn down, its flags and mask emptied
and the OK pending; where the port was asked in a consent window, the commanded device reset follows
and leaves RESET_DONE instead (R132, R141). -/
def Obligations.CloseSession : Prop :=
  ∀ (x : Port) (tag : Tag) (s : State), admitted x s = true →
    ((∀ c, s.ses.consent = some c → c.asker = x) →
      exec (.closeSession x tag []) s
        = .next (fixResponse x ⟨.ok, tag, []⟩
            (setFlagsMask x 0 0 (teardown x .close (setSession x .closed (endFrame x s))))))
    ∧ ∀ c, s.ses.consent = some c → c.asker = otherPort x →
      exec (.closeSession x tag []) s
        = .next (deviceReset
            (setFlagsMask x 0 0 (teardown x .close (setSession x .closed (endFrame x s)))))

/-- The expiries of a lease and of the consent window: the warning sets LEASE and is used up, the
session staying OPEN; the lease expiry lapses the session and tears the port down, and is followed
by the commanded device reset where the port was asked; the window's end drops the request and sets
the requester's RESET_DENIED (R130, R131, R141). -/
def Obligations.LeaseAndWindowExpiries : Prop :=
  (∀ (x : Port) (l : Lease) (w : Time) (s : State), session x s = .opened l → l.warning = some w →
    exec (.leaseWarning x) s
      = .next (raiseFlag x .lease (setSession x (.opened { l with warning := none }) s)))
  ∧ (∀ (x : Port) (l : Lease) (s : State), session x s = .opened l →
    ((∀ c, s.ses.consent = some c → c.asker = x) →
      exec (.leaseExpiry x) s = .next (teardown x (.lapse l.expiry) (setSession x .lapsed s)))
    ∧ ∀ c, s.ses.consent = some c → c.asker = otherPort x →
      exec (.leaseExpiry x) s
        = .next (deviceReset (teardown x (.lapse l.expiry) (setSession x .lapsed s))))
  ∧ ∀ (c : Consent) (s : State), s.ses.consent = some c →
    exec .consentWindowExpiry s
      = .next (raiseFlag c.asker .resetDenied (s.setSes { s.ses with consent := none }))

/-- What the teardown of port `x` leaves, from every state. Of `x`: no claim; no owner copy of a
resource it claimed, and none at all where the copies agreed; its channels, monitors and sources at
their defaults; no sequence, no step count and no binding; no entry in the urgent or prompt queue, no
active pass, no measurement in flight and no clock-check mark; and no consent request asked in an
OPEN session. A close empties its result queue; a lapse appends LEASE_LAPSED under the rule of
appends. Of the other port: claims, channels, monitors, sources, sequences (owner, kind and steps),
result queue, flags and trip causes stay. While the measurement in flight is not of `x` nothing is
dispatched: the other port's sequences, queued requests, active passes and last served id, the
rotation pointer and the converter stay, but that a measurement in flight on a channel `x` claimed
is marked CFG_CHANGED. A measurement of `x` in flight is abandoned: the teardown is then the one
from the IDLE converter, followed by a dispatch with the view FREE; that this dispatch comes after
the share of every other block is the model's choice (assumption 12). (R11, R14, R52, R75, R87, R95,
R108, R118, R138, R141, R151.) -/
def Obligations.TeardownResult : Prop :=
  ∀ (x : Port) (e : SessionEnd) (s t : State), t = teardown x e s →
    (∀ r, claimOwner r t = if claimOwner r s = some x then none else claimOwner r s)
    ∧ (copiesAgree s → (∀ c, (tget t.cfe c).owner ≠ some x) ∧ (∀ i, (monitor i t).owner ≠ some x)
      ∧ ∀ n, tget t.trg.owner n ≠ some x)
    ∧ (∀ c, tget s.ses.claims.channel c ≠ some x → tget t.cfe c = tget s.cfe c)
    ∧ (∀ c : Channel, (∀ d, c = channelOf d → tget s.ses.claims.channel d ≠ some x) →
      tget t.res.snapshot c = tget s.res.snapshot c)
    ∧ (∀ i, tget s.ses.claims.monitor i ≠ some x → monitor i t = monitor i s)
    ∧ (∀ n, tget t.trg.owner n
        = if tget s.ses.claims.source n = some x then none else tget s.trg.owner n)
    ∧ (∀ n, tget t.trg.line n = if tget s.ses.claims.source (lineSource n) = some x
        then ⟨.rising, (tget s.trg.line n).level⟩ else tget s.trg.line n)
    ∧ (∀ n, tget s.ses.claims.source (timerSource n) ≠ some x →
      tget t.trg.timer n = tget s.trg.timer n)
    ∧ (∀ n id, tget t.trg.bound n = some id ↔
      tget s.trg.bound n = some id ∧ ∀ q, sequence id s = some q → q.owner ≠ x)
    ∧ t.seq.stepTotal = s.seq.stepTotal - stepsHeld x s ∧ t.seq.stepCount = s.seq.stepCount.set x 0
    ∧ (∀ c, tget s.ses.claims.channel c = some x →
      tget t.cfe c = defaultDescriptor ∧ (tget t.res.snapshot (channelOf c)).held = none)
    ∧ (∀ i, tget s.ses.claims.monitor i = some x → monitor i t = releasedMonitor)
    ∧ (∀ n, tget s.ses.claims.source (timerSource n) = some x → tget t.trg.timer n = ⟨1000, .stopped⟩)
    ∧ (∀ id, match sequence id s with
      | none => sequence id t = none
      | some q => if q.owner = x then sequence id t = none
          else ∃ p, sequence id t = some p ∧ p.owner = q.owner ∧ p.kind = q.kind ∧ p.steps = q.steps)
    ∧ (∀ e, e ∈ t.sch.urgent → e ∈ s.sch.urgent ∧ ∀ q, sequence e.seq s = some q → q.owner ≠ x)
    ∧ (∀ p, p ∈ t.sch.prompt → p ∈ s.sch.prompt ∧ p.port ≠ x)
    ∧ (∀ p, t.sch.activeUrgent = some p → p.owner ≠ x)
    ∧ (∀ p, t.sch.activePrompt = some p → p.port ≠ x)
    ∧ t.sch.lastServed.get x = 15
    ∧ ((∀ m, inFlight s = some m → m.port ≠ x) →
      t.sch.view = s.sch.view
      ∧ t.sch.urgent = s.sch.urgent.filter (fun e => !(sequence e.seq s).any fun q => q.owner == x)
      ∧ t.sch.prompt = s.sch.prompt.filter (fun e => e.port != x)
      ∧ (∀ p, s.sch.activeUrgent = some p → p.owner ≠ x → t.sch.activeUrgent = some p)
      ∧ (∀ p, s.sch.activePrompt = some p → p.port ≠ x → t.sch.activePrompt = some p)
      ∧ t.sch.lastServed = s.sch.lastServed.set x 15 ∧ t.sch.nextPort = s.sch.nextPort
      ∧ (∀ id q, sequence id s = some q → q.owner ≠ x → sequence id t = some q)
      ∧ ∀ mine : Channel → Bool,
        (∀ d, mine d = true ↔ ∃ c, d = channelOf c ∧ tget s.ses.claims.channel c = some x) →
        (t.cnv = { s.cnv with state := match s.cnv.state with
          | .starting => .starting
          | .idle => .idle
          | .settling m d => .settling { m with cfgChanged := m.cfgChanged || mine m.channel } d
          | .sampling m d => .sampling { m with cfgChanged := m.cfgChanged || mine m.channel } d })
        ∧ ∀ m, inFlight s = some m →
          inFlight t = some { m with cfgChanged := m.cfgChanged || mine m.channel })
    ∧ (∀ m, inFlight s = some m → m.port = x →
      ∀ u, u = teardown x e (s.setCnv { s.cnv with state := .idle }) →
        t = dispatch (u.setSch { u.sch with view := .free }))
    ∧ (∀ m, inFlight t = some m → m.port ≠ x)
    ∧ t.tmb = { s.tmb with check := s.tmb.check.map fun k => { k with marks := k.marks.set x false } }
    ∧ t.ses.session = s.ses.session
    ∧ (∀ c, t.ses.consent = some c ↔
      s.ses.consent = some c ∧ ¬ (c.asker = x ∧ c.askedOpen = true))
    ∧ (e = .close → resultQueue x t = ⟨[], 0, 0, 16⟩ ∧ hostPort x t = hostPort x s)
    ∧ (∀ time q, e = .lapse time → q = resultQueue x s →
      (q.records.length < 64 → resultQueue x t
        = ⟨q.records ++ [.notice .leaseLapsed time q.gap], q.delivered, 0, q.watermark⟩)
      ∧ (64 ≤ q.records.length → resultQueue x t
        = ⟨q.records, q.delivered, min 255 (q.gap + 1), q.watermark⟩)
      ∧ hostPort x t = hostPort x
        (if 64 ≤ q.records.length then raiseFlag x .gap s
         else if q.records.length + 1 = q.watermark then raiseFlag x .results s else s))
    ∧ resultQueue (otherPort x) t = resultQueue (otherPort x) s
    ∧ hostPort (otherPort x) t = hostPort (otherPort x) s
    ∧ t.trp = s.trp

/-! ### Claims -/

/-- CLAIM by owner and use: GRANTED to x when unowned and free, HELD when x owns it, OWNED when the
other port does, IN_USE for an unowned channel that the other port's enabled sequences or ON
monitors name; in CLAIM and in RELEASE an undefined class or number is refused with BAD_ARGUMENT
(R135, R136, R137). RELEASE by owner and use: taken when x owns the resource and it is free, NOT_OWNER when x does not own it,
IN_USE for a channel that is absorbed or that x's enabled sequences or ON monitors name, for a
monitor that is not OFF and for a bound source (R15, R41, R116, R137). A grant gives the claim and
the owner copy to x and leaves every setting; a release clears both and returns the resource to its
defaults: a channel with its snapshot entry invalid and its generation kept, a monitor to its
released values, a line source to RISING with its reference level kept, a cadence source to 1000 us,
STOPPED (R13, R14, R87, R117, R136, R137). -/
def Obligations.ClaimsGrantsReleases : Prop :=
  ((∀ (x : Port) (tag : Tag) (cls num : Word) (s : State), admitted x s = true →
      (2 < cls.toNat ∨ (if cls = 0 then 24 else 8) ≤ num.toNat →
        exec (.claim x tag [cls, num]) s = .next (refused x .badArgument tag s)
        ∧ exec (.release x tag [cls, num]) s = .next (refused x .badArgument tag s))
      ∧ ∀ r, resourceOf cls num = some r →
        (claimOwner r s = some x →
          exec (.claim x tag [cls, num]) s = .next (answered x .claim tag [1] (endFrame x s)))
        ∧ (claimOwner r s = some (otherPort x) →
          exec (.claim x tag [cls, num]) s = .next (refused x .owned tag s))
        ∧ (claimOwner r s = none →
          (∀ c, r = .channel c → (usedBySequences (otherPort x) (channelOf c) s
              || usedByMonitors (otherPort x) (channelOf c) s) = true →
            exec (.claim x tag [cls, num]) s = .next (refused x .inUse tag s))
          ∧ ((∀ c, r = .channel c → (usedBySequences (otherPort x) (channelOf c) s
              || usedByMonitors (otherPort x) (channelOf c) s) = false) →
            exec (.claim x tag [cls, num]) s
              = .next (answered x .claim tag [0] (grantResource r x (endFrame x s))))))
   ∧ (∀ (x : Port) (tag : Tag) (cls num : Word) (r : Resource) (s : State), admitted x s = true →
        resourceOf cls num = some r → ∀ used : Bool,
        used = (match r with
          | .channel c => absorbedExt c s || usedBySequences x (channelOf c) s
              || usedByMonitors x (channelOf c) s
          | .monitor i => (monitor i s).state != .off
          | .source n => (tget s.trg.bound n).isSome) →
        exec (.release x tag [cls, num]) s = .next
          (if claimOwner r s ≠ some x then refused x .notOwner tag s
           else if used = true then refused x .inUse tag s
           else answered x .release tag [] (releaseResource r (endFrame x s)))))
  ∧ ((∀ (r : Resource) (x : Port) (s : State),
       claimOwner r (grantResource r x s) = some x
       ∧ (∀ c, r = .channel c →
         tget (grantResource r x s).cfe c = { tget s.cfe c with owner := some x })
       ∧ (∀ i, r = .monitor i →
         monitor i (grantResource r x s) = { monitor i s with owner := some x })
       ∧ (∀ n, r = .source n → tget (grantResource r x s).trg.owner n = some x
         ∧ (grantResource r x s).trg.line = s.trg.line ∧ (grantResource r x s).trg.timer = s.trg.timer)
       ∧ (grantResource r x s).res = s.res)
     ∧ ∀ (r : Resource) (s : State),
       claimOwner r (releaseResource r s) = none
       ∧ (∀ q, q ≠ r → claimOwner q (releaseResource r s) = claimOwner q s)
       ∧ (∀ c, r = .channel c →
         tget (releaseResource r s).cfe c = ⟨.bipolar10V, .single, 10, none⟩
         ∧ tget (releaseResource r s).res.snapshot (channelOf c)
             = ⟨(tget s.res.snapshot (channelOf c)).generation, none⟩
         ∧ (∀ m, inFlight s = some m → m.channel = channelOf c →
             inFlight (releaseResource r s) = some { m with cfgChanged := true }))
       ∧ (∀ i, r = .monitor i →
         monitor i (releaseResource r s) = ⟨none, 0, 0, 0, 0, 0, .alert, .off, 0⟩)
       ∧ (∀ n : Fin 4, r = .source (lineSource n) →
         tget (releaseResource r s).trg.owner (lineSource n) = none
         ∧ tget (releaseResource r s).trg.line n = { tget s.trg.line n with edge := .rising })
       ∧ (∀ n : Fin 4, r = .source (timerSource n) →
         tget (releaseResource r s).trg.owner (timerSource n) = none
         ∧ tget (releaseResource r s).trg.timer n = ⟨1000, .stopped⟩)
       ∧ (releaseResource r s).trp = s.trp)

/-! ### Channels -/

/-- SET_CHANNEL on a channel `c` the sender owns that is not absorbed. To SINGLE it is always taken;
to DIFF on an even channel it needs the partner, which must be free of steps, monitors, CONVERT_NOW
requests and the measurement in flight unless the pair is DIFF already. Taken, it writes the three
fields, keeps the owner, and marks a measurement in flight on `c`; the converter state, its times
and the trim are otherwise unchanged (R9, R10, R11). -/
def Obligations.SetChannel : Prop :=
  ∀ (x : Port) (tag : Tag) (c : ExtChannel) (ch rg md st : Word) (range : Range) (mode : InputMode)
    (s : State), admitted x s = true → ch.toNat = c.val → rangeOf rg = some range →
    modeOf md = some mode → st.toNat ≤ 1023 → (tget s.cfe c).owner = some x →
    absorbedExt c s = false →
    (mode = .diff → ∃ o, oddPartner c = some o ∧ (tget s.cfe o).owner = some x
      ∧ ((tget s.cfe c).mode = .diff
        ∨ (usedBySequences x (channelOf o) s = false ∧ usedByMonitors x (channelOf o) s = false
          ∧ (∀ e, e ∈ s.sch.prompt ∨ s.sch.activePrompt = some e →
              ∀ n, e.item ≠ .immediate (channelOf o) n)
          ∧ ∀ m, inFlight s = some m → m.channel ≠ channelOf o))) →
    ∃ t, exec (.setChannel x tag [ch, rg, md, st]) s = .next (answered x .setChannel tag [] t)
      ∧ tget t.cfe c = ⟨range, mode, st.setWidth 10, some x⟩
      ∧ (∀ d, d ≠ c → tget t.cfe d = tget s.cfe d)
      ∧ (∀ d, (tget t.res.snapshot d).generation = (tget s.res.snapshot d).generation)
      ∧ (∀ d, (tget t.res.snapshot d).held =
          if (d = channelOf c ∧ ((tget s.cfe c).mode ≠ mode ∨ (tget s.cfe c).range ≠ range))
              ∨ ((tget s.cfe c).mode = .single ∧ mode = .diff ∧ d.val = c.val + 1)
          then none else (tget s.res.snapshot d).held)
      ∧ t.res.queue = s.res.queue
      ∧ (∀ m, inFlight s = some m → inFlight t = some
          (if m.channel = channelOf c then { m with cfgChanged := true } else m))
      ∧ (t.cnv = { s.cnv with state := match s.cnv.state with
          | .starting => .starting
          | .idle => .idle
          | .settling m d =>
            .settling (if m.channel = channelOf c then { m with cfgChanged := true } else m) d
          | .sampling m d =>
            .sampling (if m.channel = channelOf c then { m with cfgChanged := true } else m) d })
      ∧ (t.seq = s.seq ∧ t.sch = s.sch ∧ t.trg = s.trg ∧ t.mon = s.mon
        ∧ t.trp = s.trp ∧ t.ses = s.ses ∧ t.tmb = s.tmb ∧ t.host = (endFrame x s).host)

/-- The refusals of SET_CHANNEL in their order: BAD_ARGUMENT for a channel that is not external, an
undefined range or mode, a settle above 1023 or DIFF on an odd channel; NOT_OWNER for the channel
and then for the DIFF partner; WRONG_STATE for an absorbed channel; IN_USE for a partner that the
sender's enabled sequences or ON monitors name, that a CONVERT_NOW request of either port names, or
that is being measured (R9). DEFINE_SEQUENCE refused at the first check that fails: BAD_ARGUMENT for
an undefined kind, no step or more than 16, a step word with an unused bit, an undefined sample count
or a channel above 31, a TRIGGERED source above 7, or a source or budget of another kind; NOT_OWNER for a source the sender does not own, then FOREIGN, then FULL for a full table, twelve
sequences, the store or the quota, then WRONG_STATE for an absorbed channel, then IN_USE for a bound
source (R42). -/
def Obligations.ChannelAndSequenceRefusals : Prop :=
  (∀ (x : Port) (tag : Tag) (ch rg md st : Word) (s : State), admitted x s = true →
     (24 ≤ ch.toNat ∨ 4 ≤ rg.toNat ∨ 2 ≤ md.toNat ∨ 1023 < st.toNat ∨ (md = 1 ∧ ch.toNat % 2 = 1) →
       exec (.setChannel x tag [ch, rg, md, st]) s = .next (refused x .badArgument tag s))
     ∧ (rg.toNat < 4 → st.toNat ≤ 1023 → ∀ c : ExtChannel, ch.toNat = c.val →
       (md = 0 ∨ (md = 1 ∧ c.val % 2 = 0) → (tget s.cfe c).owner ≠ some x →
         exec (.setChannel x tag [ch, rg, md, st]) s = .next (refused x .notOwner tag s))
       ∧ ((tget s.cfe c).owner = some x →
         (md = 0 → absorbedExt c s = true →
           exec (.setChannel x tag [ch, rg, md, st]) s = .next (refused x .wrongState tag s))
         ∧ ∀ o, md = 1 → oddPartner c = some o →
           ((tget s.cfe o).owner ≠ some x →
             exec (.setChannel x tag [ch, rg, md, st]) s = .next (refused x .notOwner tag s))
           ∧ ((tget s.cfe o).owner = some x → (tget s.cfe c).mode = .single →
             (usedBySequences x (channelOf o) s = true ∨ usedByMonitors x (channelOf o) s = true
               ∨ (∃ e n, (e ∈ s.sch.prompt ∨ s.sch.activePrompt = some e)
                 ∧ e.item = .immediate (channelOf o) n)
               ∨ ∃ m, inFlight s = some m ∧ m.channel = channelOf o) →
             exec (.setChannel x tag [ch, rg, md, st]) s = .next (refused x .inUse tag s)))))
  ∧ (∀ (x : Port) (tag : Tag) (k src b : Word) (ws : List Word) (s : State), admitted x s = true →
       2 < k.toNat ∨ ws.length = 0 ∨ 16 < ws.length ∨ (k = 0 ∧ 7 < src.toNat)
         ∨ ((k = 1 ∨ k = 2) ∧ (src ≠ 0 ∨ b ≠ 0))
         ∨ (∃ w, w ∈ ws ∧ (w.extractLsb' 13 2 ≠ 0 ∨ 31 < (w.extractLsb' 0 8).toNat
           ∨ ∀ n : SampleCount, (w.extractLsb' 8 5).toNat ≠ n.toNat)) →
       exec (.defineSequence x tag (k :: src :: b :: ws)) s = .next (refused x .badArgument tag s))
  ∧ (∀ (x : Port) (tag : Tag) (k src b : Word) (ws : List Word) (kind : SeqKind) (steps : List SeqStep)
       (s : State), admitted x s = true → 1 ≤ ws.length → ws.length ≤ 16 →
       kindOf k src b = some kind → stepsOf ws = some steps →
       ∀ noSource foreign full : Prop,
       (noSource ↔ ∃ n d, kind = .triggered n d ∧ tget s.trg.owner n ≠ some x) →
       (foreign ↔ ∃ st, st ∈ steps ∧ foreignTo x st.channel s = true) →
       (full ↔ (∀ id, sequence id s ≠ none) ∨ 12 ≤ sequencesHeld x s
         ∨ 128 < s.seq.stepTotal + steps.length ∨ 96 < s.seq.stepCount.get x + steps.length) →
       (noSource → exec (.defineSequence x tag (k :: src :: b :: ws)) s
         = .next (refused x .notOwner tag s))
       ∧ (¬ noSource → foreign → exec (.defineSequence x tag (k :: src :: b :: ws)) s
         = .next (refused x .foreign tag s))
       ∧ (¬ noSource → ¬ foreign → full → exec (.defineSequence x tag (k :: src :: b :: ws)) s
         = .next (refused x .full tag s))
       ∧ (¬ noSource → ¬ foreign → ¬ full → (∃ st, st ∈ steps ∧ absorbed st.channel s = true) →
         exec (.defineSequence x tag (k :: src :: b :: ws)) s = .next (refused x .wrongState tag s))
       ∧ (¬ noSource → ¬ foreign → ¬ full → (∀ st, st ∈ steps → absorbed st.channel s = false) →
         (∃ n d, kind = .triggered n d ∧ tget s.trg.bound n ≠ none) →
         exec (.defineSequence x tag (k :: src :: b :: ws)) s = .next (refused x .inUse tag s)))

/-- The reading commands change no state but the response and the renewal, from either port, and
their payloads give the entry as it stands, word by word (R12, R51, R107, R115, Tables 11-4 and
11-7). GET_CHANNEL, GET_SEQUENCE and GET_MONITOR are taken in an OPEN session; READ_SNAPSHOT in every
session state, its words of an invalid entry being 0 but for generation and channel. Unused bits are
0 (R171). A number out of range is BAD_ARGUMENT, and outside an OPEN session the first three are
NO_SESSION. The descriptor of an external channel is the table's, and that of an internal one has
the values of Table 1-1 in every state (R3, R4). -/
def Obligations.ReadingCommands : Prop :=
  ∀ (x : Port) (tag : Tag) (w : Word) (s : State), takesFrame x s = true → started s = true →
    ((∀ e : ExtChannel, descriptor (channelOf e) s = tget s.cfe e)
      ∧ descriptor 24 s = ⟨.unipolar2V5, .single, 50, none⟩
      ∧ descriptor 25 s = ⟨.bipolar5V, .single, 10, none⟩
      ∧ descriptor 26 s = ⟨.unipolar10V, .single, 10, none⟩
      ∧ descriptor 27 s = ⟨.unipolar10V, .single, 10, none⟩
      ∧ descriptor 28 s = ⟨.bipolar5V, .single, 10, none⟩
      ∧ descriptor 29 s = ⟨.unipolar2V5, .single, 10, none⟩
      ∧ descriptor 30 s = ⟨.unipolar2V5, .single, 10, none⟩
      ∧ descriptor 31 s = ⟨.bipolar10V, .single, 0, none⟩)
    ∧ (sessionOpen x s = false →
      exec (.getChannel x tag [w]) s = .next (refused x .noSession tag s)
      ∧ exec (.getSequence x tag [w]) s = .next (refused x .noSession tag s)
      ∧ exec (.getMonitor x tag [w]) s = .next (refused x .noSession tag s))
    ∧ (sessionOpen x s = true →
      (31 < w.toNat → exec (.getChannel x tag [w]) s = .next (refused x .badArgument tag s))
      ∧ (∀ c : Channel, w.toNat = c.val → ∃ h : Word,
        exec (.getChannel x tag [w]) s
          = .next (answered x .getChannel tag [h, (descriptor c s).settle.setWidth 16]
              (endFrame x s))
        ∧ h.getLsbD 15 = absorbed c s ∧ h.getLsbD 14 = decide (24 ≤ c.val)
        ∧ h.extractLsb' 12 2 = ownerCode (descriptor c s).owner
        ∧ h.extractLsb' 11 1 = modeCode (descriptor c s).mode
        ∧ h.extractLsb' 8 2 = rangeCode (descriptor c s).range
        ∧ (h.extractLsb' 0 5).toNat = c.val
        ∧ h.getLsbD 10 = false ∧ h.extractLsb' 5 3 = 0)
      ∧ (15 < w.toNat → exec (.getSequence x tag [w]) s = .next (refused x .badArgument tag s))
      ∧ (∀ id : SeqId, w.toNat = id.val →
        (sequence id s = none →
          exec (.getSequence x tag [w]) s = .next (answered x .getSequence tag [w] (endFrame x s)))
        ∧ ∀ q, sequence id s = some q → ∃ h g : Word,
          exec (.getSequence x tag [w]) s
            = .next (answered x .getSequence tag
                ([h, g,
                  match q.kind with | .triggered n _ => BitVec.ofNat 16 n.val | _ => 0,
                  match q.kind with | .triggered _ b => b | _ => 0,
                  q.pass.setWidth 16, BitVec.ofNat 16 q.index, BitVec.ofNat 16 q.restarts,
                  BitVec.ofNat 16 q.misses, BitVec.ofNat 16 q.steps.length,
                  BitVec.ofNat 16 (s.seq.stepCount.get q.owner)] ++ q.steps.map stepWord)
                (endFrame x s))
          ∧ h = (0 : BitVec 5) ++ (match q.state with
              | .defined => (1 : BitVec 3) | .armed => 2 | .pending => 3 | .running => 4
              | .stopping => 5) ++ (0 : BitVec 4) ++ BitVec.ofNat 4 id.val
          ∧ g = (0 : BitVec 6) ++ (match q.kind with
              | .triggered _ _ => (0 : BitVec 2) | .keyed => 1 | .continuous => 2)
            ++ (0 : BitVec 6) ++ (match q.owner with | .A => (1 : BitVec 2) | .B => 2))
      ∧ (∀ st : SeqStep, (stepWord st).getLsbD 15 = st.quiet ∧ (stepWord st).extractLsb' 13 2 = 0
        ∧ ((stepWord st).extractLsb' 8 5).toNat = st.samples.toNat
        ∧ ((stepWord st).extractLsb' 0 8).toNat = st.channel.val)
      ∧ (7 < w.toNat → exec (.getMonitor x tag [w]) s = .next (refused x .badArgument tag s))
      ∧ ∀ i : MonId, w.toNat = i.val → ∀ m, m = monitor i s → ∃ h k : Word,
        exec (.getMonitor x tag [w]) s
          = .next (answered x .getMonitor tag
              [h, BitVec.ofNat 16 m.channel.val, m.low, m.high, m.hysteresis, k] (endFrame x s))
        ∧ h = (0 : BitVec 2) ++ (match m.state with
            | .off => (0 : BitVec 2) | .within => 1 | .counting => 2 | .violated => 3)
          ++ (0 : BitVec 3) ++ (match m.action with | .alert => (0 : BitVec 1) | .trip => 1)
          ++ (0 : BitVec 2) ++ (match m.owner with
            | none => (0 : BitVec 2) | some .A => 1 | some .B => 2)
          ++ (0 : BitVec 1) ++ BitVec.ofNat 3 i.val
        ∧ k = (0 : BitVec 4) ++ BitVec.ofNat 4 m.outside ++ (0 : BitVec 4) ++ BitVec.ofNat 4 m.count)
    ∧ ∀ m : Word,
      (31 < w.toNat ∨ m = 0 ∨ 8 < m.toNat ∨ 32 < w.toNat + m.toNat →
        exec (.readSnapshot x tag [w, m]) s = .next (refused x .badArgument tag s))
      ∧ (1 ≤ m.toNat → m.toNat ≤ 8 → w.toNat + m.toNat ≤ 32 → ∃ payload : List Word,
        exec (.readSnapshot x tag [w, m]) s
          = .next (answered x .readSnapshot tag payload (endFrame x s))
        ∧ payload.length = 5 * m.toNat
        ∧ ∀ (k : Nat) (c : Channel) (e : SnapshotEntry), k < m.toNat → c.val = w.toNat + k →
          e = tget s.res.snapshot c →
          (payload.drop (5 * k)).take 5 = match e.held with
            | none => [e.generation.setWidth 16, BitVec.ofNat 16 c.val, 0, 0, 0]
            | some v =>
              [(1 : BitVec 1) ++ (match v.port with | .A => (0 : BitVec 1) | .B => 1)
                 ++ (match v.seq with
                   | none => (0 : BitVec 5) | some id => (1 : BitVec 1) ++ BitVec.ofNat 4 id.val)
                 ++ (0 : BitVec 1) ++ e.generation,
               BitVec.ofBool v.clipped ++ BitVec.ofBool v.untrimmed ++ (0 : BitVec 9)
                 ++ BitVec.ofNat 5 c.val,
               v.value, v.stamp.extractLsb' 16 16, v.stamp.extractLsb' 0 16])

/-! ### Sequences -/

/-- DEFINE_SEQUENCE taken: the lowest FREE entry takes owner, kind and steps at DEFINED, pass 0,
index 0, restarts 0 and misses 0, the store counts rise by the step count, a TRIGGERED source is
bound, and the id is the payload (R34, R42, R43, R77). -/
def Obligations.DefineSequence : Prop :=
  ∀ (x : Port) (tag : Tag) (k src b : Word) (ws : List Word) (kind : SeqKind) (steps : List SeqStep)
    (id : SeqId) (s : State), admitted x s = true → 1 ≤ ws.length → ws.length ≤ 16 →
    kindOf k src b = some kind → stepsOf ws = some steps →
    (∀ n d, kind = .triggered n d → tget s.trg.owner n = some x ∧ tget s.trg.bound n = none) →
    (∀ st, st ∈ steps → foreignTo x st.channel s = false ∧ absorbed st.channel s = false) →
    sequence id s = none → (∀ j, j < id → sequence j s ≠ none) →
    sequencesHeld x s < 12 → s.seq.stepTotal + steps.length ≤ 128 →
    s.seq.stepCount.get x + steps.length ≤ 96 →
    ∃ t, exec (.defineSequence x tag (k :: src :: b :: ws)) s
        = .next (answered x .defineSequence tag [numberWord id.val] t)
      ∧ sequence id t = some ⟨x, kind, steps, .defined, 0, 0, 0, 0⟩
      ∧ (∀ j, j ≠ id → sequence j t = sequence j s)
      ∧ t.seq.stepTotal = s.seq.stepTotal + steps.length
      ∧ t.seq.stepCount.get x = s.seq.stepCount.get x + steps.length
      ∧ t.seq.stepCount.get (otherPort x) = s.seq.stepCount.get (otherPort x)
      ∧ (∀ n, tget t.trg.bound n = match kind with
          | .triggered m _ => if n = m then some id else tget s.trg.bound n
          | _ => tget s.trg.bound n)
      ∧ t.trg.owner = s.trg.owner ∧ t.trg.line = s.trg.line ∧ t.trg.timer = s.trg.timer
      ∧ (t.cfe = s.cfe ∧ t.cnv = s.cnv ∧ t.sch = s.sch ∧ t.res = s.res ∧ t.mon = s.mon
        ∧ t.trp = s.trp ∧ t.ses = s.ses ∧ t.tmb = s.tmb ∧ t.host = (endFrame x s).host)

/-- DELETE_SEQUENCE: NO_SESSION outside an OPEN session, BAD_ARGUMENT for an id above 15, NOT_OWNER
for a FREE entry or the other port's, WRONG_STATE outside DEFINED; taken, the entry is FREE, the
total and the port's count fall by the step count, a TRIGGERED sequence's source is unbound and
keeps owner and settings, and nothing else changes (R50). -/
def Obligations.DeleteSequence : Prop :=
  ∀ (x : Port) (tag : Tag) (w : Word) (s : State), takesFrame x s = true → started s = true →
    (sessionOpen x s = false →
      exec (.deleteSequence x tag [w]) s = .next (refused x .noSession tag s))
    ∧ (sessionOpen x s = true →
      (15 < w.toNat → exec (.deleteSequence x tag [w]) s = .next (refused x .badArgument tag s))
      ∧ ∀ id : SeqId, w.toNat = id.val →
        ((sequence id s = none ∨ ∃ q, sequence id s = some q ∧ q.owner = otherPort x) →
          exec (.deleteSequence x tag [w]) s = .next (refused x .notOwner tag s))
        ∧ ∀ q, sequence id s = some q → q.owner = x →
          (q.state ≠ .defined →
            exec (.deleteSequence x tag [w]) s = .next (refused x .wrongState tag s))
          ∧ (q.state = .defined →
            ∃ t, exec (.deleteSequence x tag [w]) s = .next (answered x .deleteSequence tag [] t)
              ∧ sequence id t = none ∧ (∀ j, j ≠ id → sequence j t = sequence j s)
              ∧ t.seq.stepTotal = s.seq.stepTotal - q.steps.length
              ∧ t.seq.stepCount = s.seq.stepCount.set x (s.seq.stepCount.get x - q.steps.length)
              ∧ (∀ n, tget t.trg.bound n = match q.kind with
                  | .triggered m _ => if n = m then none else tget s.trg.bound n
                  | _ => tget s.trg.bound n)
              ∧ t.trg.owner = s.trg.owner ∧ t.trg.line = s.trg.line ∧ t.trg.timer = s.trg.timer
              ∧ (t.cfe = s.cfe ∧ t.cnv = s.cnv ∧ t.sch = s.sch ∧ t.res = s.res ∧ t.mon = s.mon
                ∧ t.trp = s.trp ∧ t.ses = s.ses ∧ t.tmb = s.tmb ∧ t.host = (endFrame x s).host)))

/-- ENABLE, RUN, STOP, HALT and DELETE_SEQUENCE name a sequence of the sender's own: an id above 15
is BAD_ARGUMENT, and a FREE entry or the other port's sequence is NOT_OWNER (R44, R45, R46, R48,
R50). -/
def Obligations.OwnSequenceOnly : Prop :=
  ∀ (x : Port) (c : HostCommand) (tag : Tag) (w : Word) (s : State), admitted x s = true →
    [HostCommand.enable, .run, .stop, .halt, .deleteSequence].contains c = true →
    (15 < w.toNat → exec (commandRow x c tag [w]) s = .next (refused x .badArgument tag s))
    ∧ ∀ id : SeqId, w.toNat = id.val →
      (sequence id s = none ∨ ∃ q, sequence id s = some q ∧ q.owner = otherPort x) →
        exec (commandRow x c tag [w]) s = .next (refused x .notOwner tag s)

/-- ENABLE of the sender's sequence: FOREIGN before WRONG_STATE; taken, a TRIGGERED or KEYED
sequence becomes ARMED at index 0 with its pass number kept, and a CONTINUOUS one becomes RUNNING
with a pass started, a dispatch following if the view is FREE (R37, R44, R58). -/
def Obligations.Enable : Prop :=
  ∀ (x : Port) (tag : Tag) (w : Word) (id : SeqId) (q : Sequence) (s : State),
    admitted x s = true → w.toNat = id.val → sequence id s = some q → q.owner = x →
    ((∃ st, st ∈ q.steps ∧ foreignTo x st.channel s = true) →
      exec (.enable x tag [w]) s = .next (refused x .foreign tag s))
    ∧ ((∀ st, st ∈ q.steps → foreignTo x st.channel s = false) →
      (q.state ≠ .defined ∨ (∃ st, st ∈ q.steps ∧ absorbed st.channel s = true) →
        exec (.enable x tag [w]) s = .next (refused x .wrongState tag s))
      ∧ (q.state = .defined → (∀ st, st ∈ q.steps → absorbed st.channel s = false) →
        (q.kind ≠ .continuous →
          exec (.enable x tag [w]) s = .next (answered x .enable tag []
            (setSequence id (some ⟨x, q.kind, q.steps, .armed, q.pass, 0, 0, 0⟩) (endFrame x s))))
        ∧ (q.kind = .continuous →
          exec (.enable x tag [w]) s = .next (answered x .enable tag []
            (dispatchIfFree (setSequence id
              (some ⟨x, q.kind, q.steps, .running, q.pass + 1, 0, 0, q.misses⟩)
              (endFrame x s)))))))

/-- RUN of the sender's sequence: FULL before WRONG_STATE; taken in ARMED, the sequence is PENDING
with an entry at the tail of the prompt queue, and a dispatch follows if the view is FREE (R45, R57,
R58). CONVERT_NOW: refused with BAD_ARGUMENT for a channel above 31 or an undefined sample count, then
FOREIGN, then FULL, then WRONG_STATE; taken, an immediate entry
joins the tail of the prompt queue, and a dispatch follows if the view is FREE (R57, R58, R71). -/
def Obligations.PromptRequests : Prop :=
  (∀ (x : Port) (tag : Tag) (w : Word) (id : SeqId) (q : Sequence) (s : State),
     admitted x s = true → w.toNat = id.val → sequence id s = some q → q.owner = x →
     (8 ≤ s.sch.prompt.length ∨ 4 ≤ (s.sch.prompt.countP fun e => e.port == x) →
       exec (.run x tag [w]) s = .next (refused x .full tag s))
     ∧ (s.sch.prompt.length < 8 → (s.sch.prompt.countP fun e => e.port == x) < 4 →
       (q.kind = .continuous ∨ q.state ≠ .armed →
         exec (.run x tag [w]) s = .next (refused x .wrongState tag s))
       ∧ (q.kind ≠ .continuous → q.state = .armed →
         exec (.run x tag [w]) s = .next (answered x .run tag []
           (dispatchIfFree ((setSequence id (some { q with state := .pending }) (endFrame x s)).setSch
             { s.sch with prompt := s.sch.prompt ++ [⟨x, .sequence id⟩] }))))))
  ∧ (∀ (x : Port) (tag : Tag) (ch n : Word) (s : State), admitted x s = true →
       (31 < ch.toNat ∨ ∀ k : SampleCount, n.toNat ≠ k.toNat) →
       exec (.convertNow x tag [ch, n]) s = .next (refused x .badArgument tag s))
  ∧ (∀ (x : Port) (tag : Tag) (ch n : Word) (c : Channel) (k : SampleCount) (s : State),
       admitted x s = true → ch.toNat = c.val → n.toNat = k.toNat →
       (foreignTo x c s = true → exec (.convertNow x tag [ch, n]) s = .next (refused x .foreign tag s))
       ∧ (foreignTo x c s = false →
         (8 ≤ s.sch.prompt.length ∨ 4 ≤ (s.sch.prompt.countP fun e => e.port == x) →
           exec (.convertNow x tag [ch, n]) s = .next (refused x .full tag s))
         ∧ (s.sch.prompt.length < 8 → (s.sch.prompt.countP fun e => e.port == x) < 4 →
           (absorbed c s = true →
             exec (.convertNow x tag [ch, n]) s = .next (refused x .wrongState tag s))
           ∧ (absorbed c s = false →
             exec (.convertNow x tag [ch, n]) s = .next (answered x .convertNow tag []
               (dispatchIfFree ((endFrame x s).setSch
                 { s.sch with prompt := s.sch.prompt ++ [⟨x, .immediate c k⟩] })))))))

/-- STOP of the sender's sequence, by state: WRONG_STATE in DEFINED; ARMED to DEFINED and PENDING to
DEFINED with the request removed, the miss count discarded; RUNNING to STOPPING with its position
kept; STOPPING unchanged (R40, R46, R73). HALT of the sender's sequence: WRONG_STATE in DEFINED; in
an enabled state its request or its active pass is dropped, it becomes DEFINED with step index and
pass kept and misses and restarts 0, its measurement in flight is abandoned, and a SEQ_HALTED notice
with the time of the frame goes to the sender's queue. An abandon order that names the measurement
in flight leaves the converter IDLE and dispatches; any other changes nothing. That the sequence is
DEFINED before that dispatch is the model's choice (R30, R48, R74; assumption 13). -/
def Obligations.StopAndHalt : Prop :=
  (∀ (x : Port) (tag : Tag) (w : Word) (id : SeqId) (q : Sequence) (s : State),
     admitted x s = true → w.toNat = id.val → sequence id s = some q → q.owner = x →
     exec (.stop x tag [w]) s = .next
       (match q.state with
       | .defined => refused x .wrongState tag s
       | .armed => answered x .stop tag []
           (setSequence id (some { q with state := .defined, misses := 0 }) (endFrame x s))
       | .pending => answered x .stop tag []
           (setSequence id (some { q with state := .defined, misses := 0 })
             ((endFrame x s).setSch { s.sch with
               urgent := s.sch.urgent.filter fun e => e.seq != id
               prompt := s.sch.prompt.filter fun e => e.item != .sequence id }))
       | .running => answered x .stop tag []
           (setSequence id (some { q with state := .stopping }) (endFrame x s))
       | .stopping => answered x .stop tag [] (endFrame x s)))
  ∧ ((∀ (x : Port) (tag : Tag) (w : Word) (id : SeqId) (q : Sequence) (s : State),
       admitted x s = true → w.toNat = id.val → sequence id s = some q → q.owner = x →
       (q.state = .defined → exec (.halt x tag [w]) s = .next (refused x .wrongState tag s))
       ∧ (q.state ≠ .defined → ∀ v : Scheduler,
         v = (match q.state with
           | .pending => { s.sch with
               urgent := s.sch.urgent.filter fun e => e.seq != id
               prompt := s.sch.prompt.filter fun e => e.item != .sequence id }
           | .running | .stopping => { s.sch with
               activeUrgent := s.sch.activeUrgent.filter fun p => p.seq != id
               activePrompt := s.sch.activePrompt.filter fun p => p.item != .sequence id }
           | .armed | .defined => s.sch) →
         exec (.halt x tag [w]) s = .next (answered x .halt tag []
           (appendNotice x (.seqHalted id q.pass) s.tmb.counter
             (abandonWhere (fun m => m.ofSequence id)
               (setSequence id (some ⟨x, q.kind, q.steps, .defined, q.pass, q.index, 0, 0⟩)
                 ((endFrame x s).setSch v)))))))
     ∧ ∀ (p : Measurement → Bool) (s : State),
       (∀ m, inFlight s = some m → p m = true →
         abandonWhere p s
           = dispatch ((s.setCnv { s.cnv with state := .idle }).setSch { s.sch with view := .free }))
       ∧ ((∀ m, inFlight s = some m → p m = false) → abandonWhere p s = s))

/-! ### Scheduling and measurement -/

/-- The order of a dispatch and what each item starts. The active urgent pass goes first, with the
step at its sequence's index. Then the head of the urgent queue leaves the queue, becomes the active
urgent pass with judgement OPEN and starts its pass at step 0. Then comes the active prompt pass with
the step at its sequence's index, then the head of the prompt queue, which becomes the active prompt
pass and starts its sequence's pass at step 0 or its one measurement. With no work at all nothing
changes. A start order taken by an IDLE converter latches the channel's descriptor, which for an
external channel is the table's, with marks, count and sum cleared, and settles for the latched time,
or samples at once with the counter as timestamp where that is 0 (R11, R22, R23, R37, R59, R60,
R61). -/
def Obligations.DispatchOrder : Prop :=
  (∀ (cls : WorkClass) (x : Port) (item : WorkItem) (k : Option StepRef) (c : Channel)
    (n : SampleCount) (shielded : Bool) (s : State) (d : Descriptor) (m : Measurement),
    s.cnv.state = .idle → d = descriptor c s →
    m = ⟨x, k, c, n, d.range, d.mode, d.settle, false, 0, 0, false, false⟩ →
      startMeasurement cls x item k c n shielded s
        = (s.setSch { s.sch with view := .busy ⟨cls, x, item, shielded, false⟩ }).setCnv
            { s.cnv with state := if d.settle = 0 then .sampling m s.tmb.counter
              else .settling m (s.tmb.counter + d.settle.setWidth 32) }
      ∧ ∀ e : ExtChannel, descriptor (channelOf e) s = tget s.cfe e)
  ∧ (∀ (s : State) (p : UrgentPass) (q : Sequence) (st : SeqStep),
    s.sch.activeUrgent = some p → sequence p.seq s = some q → q.steps[q.index]? = some st →
      dispatch s = startMeasurement .urgent q.owner (.step ⟨p.seq, q.index⟩)
        (some ⟨p.seq, q.index⟩) st.channel st.samples false s)
  ∧ (∀ (s : State) (x : Port) (id : SeqId) (q : Sequence) (st : SeqStep),
    s.sch.activeUrgent = none → s.sch.urgent = [] → s.sch.activePrompt = some ⟨x, .sequence id⟩ →
    sequence id s = some q → q.steps[q.index]? = some st →
      dispatch s = startMeasurement .prompt q.owner (.step ⟨id, q.index⟩) (some ⟨id, q.index⟩)
        st.channel st.samples false s)
  ∧ (∀ (s : State) (x : Port) (id : SeqId) (rest : List PromptEntry) (q : Sequence) (st : SeqStep),
    s.sch.activeUrgent = none → s.sch.urgent = [] → s.sch.activePrompt = none →
    s.sch.prompt = ⟨x, .sequence id⟩ :: rest → sequence id s = some q →
    q.steps.head? = some st →
      dispatch s = startMeasurement .prompt q.owner (.step ⟨id, 0⟩) (some ⟨id, 0⟩)
        st.channel st.samples false
        ((setSequence id (some { q with
            state := .running, pass := q.pass + 1, index := 0, restarts := 0 }) s).setSch
          { s.sch with prompt := rest, activePrompt := some ⟨x, .sequence id⟩ }))
  ∧ (∀ (s : State) (e : UrgentEntry) (rest : List UrgentEntry) (q : Sequence) (st : SeqStep),
    s.sch.activeUrgent = none → s.sch.urgent = e :: rest → sequence e.seq s = some q →
    q.steps.head? = some st → s.cnv.state = .idle →
      sequence e.seq (dispatch s)
        = some { q with state := .running, pass := q.pass + 1, index := 0, restarts := 0 }
      ∧ (dispatch s).sch = { s.sch with
          urgent := rest
          activeUrgent := some ⟨e.seq, q.owner, e.arrival, e.deadline, .undecided⟩
          view := .busy ⟨.urgent, q.owner, .step ⟨e.seq, 0⟩, false, false⟩ }
      ∧ (dispatch s).cnv = (startMeasurement .urgent q.owner (.step ⟨e.seq, 0⟩)
          (some ⟨e.seq, 0⟩) st.channel st.samples false s).cnv
      ∧ ∃ m, inFlight (dispatch s) = some m ∧ m.port = q.owner ∧ m.step = some ⟨e.seq, 0⟩
        ∧ m.channel = st.channel ∧ m.samples = st.samples)
  ∧ (∀ (s : State) (x : Port) (c : Channel) (n : SampleCount) (rest : List PromptEntry),
    s.sch.activeUrgent = none → s.sch.urgent = [] → s.sch.activePrompt = none →
    s.sch.prompt = ⟨x, .immediate c n⟩ :: rest → s.cnv.state = .idle →
      (dispatch s).sch = { s.sch with
          prompt := rest
          activePrompt := some ⟨x, .immediate c n⟩
          view := .busy ⟨.prompt, x, .immediate c, false, false⟩ }
      ∧ (dispatch s).seq = s.seq
      ∧ (dispatch s).cnv = (startMeasurement .prompt x (.immediate c) none c n false s).cnv
      ∧ ∃ m, inFlight (dispatch s) = some m ∧ m.port = x ∧ m.step = none ∧ m.channel = c
        ∧ m.samples = n)
  ∧ ∀ s : State, s.sch.activeUrgent = none → s.sch.urgent = [] → s.sch.activePrompt = none →
    s.sch.prompt = [] → (∀ x id, runnable x id s = false) → dispatch s = s

/-- Which sequences are runnable: those of the port that are CONTINUOUS, in RUNNING or STOPPING, and
whose step at the step index is quiet or finds the port's queue below 64 records. Background
rotation: the pointer's port is served with its lowest runnable id above its last served id, or with
its lowest runnable id where none is above; the other port is served only when the pointer's port
has nothing runnable. The pointer then names the port not served, and a step at restart count 3 is
protected (R59, R61, R62, R66). -/
def Obligations.BackgroundRotation : Prop :=
  (∀ (x : Port) (id : SeqId) (s : State), runnable x id s = true ↔
    ∃ (q : Sequence) (st : SeqStep), sequence id s = some q ∧ q.owner = x ∧ q.kind = .continuous
      ∧ (q.state = .running ∨ q.state = .stopping) ∧ q.steps[q.index]? = some st
      ∧ (st.quiet = true ∨ queueCount x s < 64))
  ∧ ∀ (s : State) (x : Port) (id : SeqId) (q : Sequence) (st : SeqStep),
    s.sch.activeUrgent = none → s.sch.urgent = [] → s.sch.activePrompt = none → s.sch.prompt = [] →
    s.cnv.state = .idle →
    (x = s.sch.nextPort ∨ (x = otherPort s.sch.nextPort ∧ ∀ j, runnable s.sch.nextPort j s = false)) →
    runnable x id s = true → sequence id s = some q → q.steps[q.index]? = some st →
    ((s.sch.lastServed.get x < id
        ∧ ∀ j, runnable x j s = true → s.sch.lastServed.get x < j → id ≤ j)
      ∨ ((∀ j, runnable x j s = true → j ≤ s.sch.lastServed.get x)
        ∧ ∀ j, runnable x j s = true → id ≤ j)) →
      (dispatch s).sch = { s.sch with
          lastServed := s.sch.lastServed.set x id
          nextPort := otherPort x
          view := .busy ⟨.background, q.owner, .step ⟨id, q.index⟩, q.restarts == 3, false⟩ }
      ∧ (dispatch s).seq = s.seq
      ∧ (dispatch s).cnv = (startMeasurement .background q.owner (.step ⟨id, q.index⟩)
          (some ⟨id, q.index⟩) st.channel st.samples (q.restarts == 3) s).cnv
      ∧ ∃ m, inFlight (dispatch s) = some m ∧ m.port = q.owner ∧ m.step = some ⟨id, q.index⟩
        ∧ m.channel = st.channel ∧ m.samples = st.samples

/-- An urgent request joins the tail of the urgent queue with its deadline, and where the view is FREE
a dispatch follows; in NOT_READY the entry waits. A background measurement
that is neither protected nor already cut is cut: from SETTLING it is abandoned at once, its
sequence's restart count rises and a dispatch follows; in SAMPLING cut pending is set. Any other
measurement goes on and the entry waits (R27, R54, R56, R58, R64, R65). -/
def Obligations.UrgentRequests : Prop :=
  (∀ (id : SeqId) (budget : Word) (arrival : Time) (s : State), ∀ u : List UrgentEntry,
    u = s.sch.urgent ++ [⟨id, arrival,
      if budget = 0 then none else some (arrival + budget.setWidth 32)⟩] →
    (s.sch.view = .free →
      urgentRequest id budget arrival s = dispatch (s.setSch { s.sch with urgent := u }))
    ∧ (s.sch.view = .notReady →
      urgentRequest id budget arrival s = s.setSch { s.sch with urgent := u }))
  ∧ ∀ (id : SeqId) (budget : Word) (arrival : Time) (s : State) (r : Service),
    s.sch.view = .busy r → ∀ u : List UrgentEntry,
    u = s.sch.urgent ++ [⟨id, arrival,
      if budget = 0 then none else some (arrival + budget.setWidth 32)⟩] →
    ((r.cls ≠ .background ∨ r.shielded = true ∨ r.cutOrdered = true) →
      urgentRequest id budget arrival s = s.setSch { s.sch with urgent := u })
    ∧ (r.cls = .background → r.shielded = false → r.cutOrdered = false →
      (∀ m t, s.cnv.state = .sampling m t →
        urgentRequest id budget arrival s
          = (s.setSch { s.sch with urgent := u, view := .busy { r with cutOrdered := true } }).setCnv
              { s.cnv with state := .sampling { m with cutPending := true } t })
      ∧ ∀ m t k q, s.cnv.state = .settling m t → m.step = some k → sequence k.seq s = some q →
        urgentRequest id budget arrival s
          = dispatch (setSequence k.seq (some { q with restarts := q.restarts + 1 })
              ((s.setCnv { s.cnv with state := .idle }).setSch
                { s.sch with urgent := u, view := .free })))

/-- SETTLE_EXPIRY takes the converter from SETTLING to SAMPLING with the counter as timestamp, and
changes nothing else (R23). SAMPLE_COMPLETION below N with no cut pending: the sample joins the sum
and the count, and the clip mark is set by a sample at either limit. With cut pending, whatever the
count: the measurement is abandoned, the producing sequence's restart count rises, and a dispatch
follows (R24, R28, R39, R65). The raw sample of an input: at or beyond the ends of the span it is
-32768 or +32767, and in DIFF mode the input of even channel c is AIN c minus AIN c+1 (R5, R7,
Table 1-3). That nominalCode gives a code exactly at that code's nominal input, and between the
nominal inputs of two adjacent codes one of those two, is the model's choice (assumption 27). -/
def Obligations.SettleSamplesCuts : Prop :=
  ((∀ (r : Range) (w : Word) (v : Rat),
     nominalCode r (nominalInput r w.toInt) = w
     ∧ ((nominalInput r w.toInt : Rat) < v → v < nominalInput r (w.toInt + 1) →
       nominalCode r v = w ∨ w ≠ 0x7FFF ∧ nominalCode r v = w + 1)
     ∧ ((nominalInput r 32768 : Rat) ≤ v → nominalCode r v = 0x7FFF)
     ∧ (v ≤ nominalInput r (-32768) → nominalCode r v = 0x8000))
   ∧ ∀ (m : Measurement) (pins : Fin 24 → Rat) (inside : Fin 8 → Rat),
     (∀ c o : Fin 24, m.channel.val = c.val → o.val = c.val + 1 →
       rawSample m pins inside = nominalCode m.range
         (match m.mode with | .single => pins c | .diff => pins c - pins o))
     ∧ ∀ i : Fin 8, m.channel.val = i.val + 24 →
       rawSample m pins inside = nominalCode m.range (inside i))
  ∧ (∀ (s : State) (m : Measurement) (t : Time), s.cnv.state = .settling m t →
     exec .settleExpiry s
       = .next (s.setCnv { s.cnv with state := .sampling m s.tmb.counter }))
  ∧ (∀ (raw : Word) (s : State) (m : Measurement) (t : Time), s.cnv.state = .sampling m t →
       (m.cutPending = false → m.taken + 1 < m.samples.toNat →
         exec (.sampleCompletion raw) s = .next (s.setCnv { s.cnv with
           state := .sampling { m with
             sum := m.sum + raw.toInt, taken := m.taken + 1
             clip := m.clip || raw == 0x8000 || raw == 0x7FFF } t }))
       ∧ ∀ k q, m.cutPending = true → m.step = some k → sequence k.seq s = some q →
         exec (.sampleCompletion raw) s
           = .next (dispatch (setSequence k.seq (some { q with restarts := q.restarts + 1 })
               ((s.setCnv { s.cnv with state := .idle }).setSch { s.sch with view := .free }))))

/-- The last SAMPLE_COMPLETION of a CONVERT_NOW measurement: the value is the average of the N
samples times gain over 32768 plus offset, each division toward minus infinity, saturated; it
becomes the channel's snapshot value with the generation raised and, with room in the queue, a
record of the sender without sequence; the view ends FREE when no other work waits. With sequences
and ON monitors of any kind: the record is appended without LATE and with restarts 0, the snapshot
entry written, the value handed to the monitors, the active prompt pass ended and the view FREE, and
then a dispatch follows (R24, R25, R26, R63, R72, R90, R92, R104, R106). -/
def Obligations.ConvertNowCompletes : Prop :=
  (∀ (raw w : Word) (s : State) (m : Measurement) (t : Time) (r : Service) (v : Int)
    (clip bad : Bool),
    s.cnv.state = .sampling m t → m.cutPending = false → m.samples.toNat ≤ m.taken + 1 →
    m.step = none → s.sch.view = .busy r → r.cls = .prompt →
    v = (m.sum + raw.toInt) / (m.samples.toNat : Int)
          * ((tget s.cnv.trim (trimIndex m.range)).gain.toNat : Int) / 32768
        + (tget s.cnv.trim (trimIndex m.range)).offset.toInt →
    w.toInt = max (-32768) (min 32767 v) →
    clip = (m.clip || raw == 0x8000 || raw == 0x7FFF) → bad = (s.cnv.trimState == .trimFault) →
    ∀ recorded updated handed : State,
    recorded = appendRecord m.port
      (fun gap => .measurement none m.channel w t false clip m.cfgChanged bad 0 gap)
      (s.setCnv { s.cnv with state := .idle }) →
    updated = recorded.setRes { recorded.res with
      snapshot := tset recorded.res.snapshot m.channel
        ⟨(tget s.res.snapshot m.channel).generation + 1, some ⟨w, t, m.port, none, clip, bad⟩⟩ } →
    handed = evaluateMonitors m.channel w updated →
      exec (.sampleCompletion raw) s = .next (dispatch (handed.setSch { handed.sch with
        view := .free, activePrompt := none })))
  ∧ ∀ (raw : Word) (s : State) (m : Measurement) (t : Time) (x : Port) (v : Int) (clip bad : Bool),
    s.cnv.state = .sampling m t → m.cutPending = false → m.taken + 1 = m.samples.toNat →
    m.step = none → m.port = x → s.sch.view = .busy ⟨.prompt, x, .immediate m.channel, false, false⟩ →
    s.sch.activeUrgent = none → s.sch.urgent = [] → s.sch.prompt = [] →
    (∀ id, sequence id s = none) → (∀ i, (monitor i s).state = .off) →
    queueCount x s < 64 →
    v = (m.sum + raw.toInt) / (m.samples.toNat : Int)
          * ((tget s.cnv.trim (trimIndex m.range)).gain.toNat : Int) / 32768
        + (tget s.cnv.trim (trimIndex m.range)).offset.toInt →
    clip = (m.clip || raw == 0x8000 || raw == 0x7FFF) → bad = (s.cnv.trimState == .trimFault) →
    ∃ u w, exec (.sampleCompletion raw) s = .next u
      ∧ (w : Word).toInt = max (-32768) (min 32767 v)
      ∧ u.cnv = { s.cnv with state := .idle }
      ∧ u.sch = { s.sch with view := .free, activePrompt := none }
      ∧ tget u.res.snapshot m.channel
        = ⟨(tget s.res.snapshot m.channel).generation + 1, some ⟨w, t, x, none, clip, bad⟩⟩
      ∧ (∀ c, c ≠ m.channel → tget u.res.snapshot c = tget s.res.snapshot c)
      ∧ (resultQueue x u).records = (resultQueue x s).records
          ++ [.measurement none m.channel w t false clip m.cfgChanged bad 0 (resultQueue x s).gap]
      ∧ resultQueue (otherPort x) u = resultQueue (otherPort x) s
      ∧ (u.cfe = s.cfe ∧ u.seq = s.seq ∧ u.trg = s.trg ∧ u.mon = s.mon ∧ u.trp = s.trp
        ∧ u.ses = s.ses ∧ u.tmb = s.tmb)

/-- What a step's completion does to its sequence: before the last step the index rises and the
restart count is 0; at the last step RUNNING becomes ARMED, or starts the next pass when CONTINUOUS,
and STOPPING becomes DEFINED with the miss count discarded; SEQUENCE is set at the owner in every
end but the CONTINUOUS one in RUNNING (R37, R38, R40). The judgement of an urgent pass at its first
completion: with no deadline ON_TIME; otherwise ON_TIME when the elapsed time, modulo 2^32, is at
most the allowance, and LATE with the owner's LATE flag when it exceeds it; a pass already judged
keeps its judgement (R69). The last SAMPLE_COMPLETION of a step takes these in order: the judgement
in the URGENT class, the record unless the step is quiet (with sequence, step, pass, LATE of a late
urgent pass and the restart count of background work), the snapshot entry, the monitors, the step
completion, the end of the active pass of the class at the last step, the view FREE, and a dispatch
(R25, R26, R63, R70, R90, R92, R104). -/
def Obligations.PassProgress : Prop :=
  (∀ (raw w : Word) (s : State) (m : Measurement) (t : Time) (r : Service) (k : StepRef)
    (q : Sequence) (st : SeqStep) (v : Int) (clip bad late : Bool),
    s.cnv.state = .sampling m t → m.cutPending = false → m.samples.toNat ≤ m.taken + 1 →
    m.step = some k → sequence k.seq s = some q → q.steps[k.index]? = some st →
    s.sch.view = .busy r →
    v = (m.sum + raw.toInt) / (m.samples.toNat : Int)
          * ((tget s.cnv.trim (trimIndex m.range)).gain.toNat : Int) / 32768
        + (tget s.cnv.trim (trimIndex m.range)).offset.toInt →
    w.toInt = max (-32768) (min 32767 v) →
    clip = (m.clip || raw == 0x8000 || raw == 0x7FFF) → bad = (s.cnv.trimState == .trimFault) →
    ∀ judged recorded updated reported : State,
    judged = (if r.cls = .urgent then judgeUrgent t (s.setCnv { s.cnv with state := .idle })
      else s.setCnv { s.cnv with state := .idle }) →
    (late = true ↔ r.cls = .urgent
      ∧ ∃ p, judged.sch.activeUrgent = some p ∧ p.judgement = .late) →
    recorded = (if st.quiet = true then judged else appendRecord m.port
      (fun gap => .measurement (some ⟨k.seq, k.index, q.pass⟩) m.channel w t late clip m.cfgChanged
        bad (if r.cls = .background then q.restarts else 0) gap) judged) →
    updated = recorded.setRes { recorded.res with
      snapshot := tset recorded.res.snapshot m.channel
        ⟨(tget s.res.snapshot m.channel).generation + 1,
         some ⟨w, t, m.port, some k.seq, clip, bad⟩⟩ } →
    reported = stepCompleted k (evaluateMonitors m.channel w updated) →
      exec (.sampleCompletion raw) s = .next (dispatch (reported.setSch { reported.sch with
        view := .free
        activeUrgent := if r.cls = .urgent ∧ q.steps.length ≤ k.index + 1 then none
          else reported.sch.activeUrgent
        activePrompt := if r.cls = .prompt ∧ q.steps.length ≤ k.index + 1 then none
          else reported.sch.activePrompt })))
  ∧ (∀ (r : StepRef) (q : Sequence) (s : State), sequence r.seq s = some q →
     (r.index + 1 < q.steps.length → q.state = .running ∨ q.state = .stopping →
       stepCompleted r s
         = setSequence r.seq (some { q with index := r.index + 1, restarts := 0 }) s)
     ∧ (q.steps.length ≤ r.index + 1 →
       (q.state = .running → q.kind = .continuous →
         stepCompleted r s
           = setSequence r.seq (some { q with pass := q.pass + 1, index := 0, restarts := 0 }) s)
       ∧ (q.state = .running → q.kind ≠ .continuous →
         stepCompleted r s = raiseFlag q.owner .sequence
           (setSequence r.seq (some { q with state := .armed, index := 0, restarts := 0 }) s))
       ∧ (q.state = .stopping →
         stepCompleted r s = raiseFlag q.owner .sequence
           (setSequence r.seq
             (some { q with state := .defined, index := 0, restarts := 0, misses := 0 }) s))))
  ∧ (∀ (stamp : Time) (p : UrgentPass) (s : State), s.sch.activeUrgent = some p →
       (p.judgement ≠ .undecided → judgeUrgent stamp s = s)
       ∧ (p.judgement = .undecided →
         (p.deadline = none →
           judgeUrgent stamp s
             = s.setSch { s.sch with activeUrgent := some { p with judgement := .onTime } })
         ∧ ∀ d, p.deadline = some d →
           ((stamp - p.arrival).toNat ≤ (d - p.arrival).toNat →
             judgeUrgent stamp s
               = s.setSch { s.sch with activeUrgent := some { p with judgement := .onTime } })
           ∧ ((d - p.arrival).toNat < (stamp - p.arrival).toNat →
             judgeUrgent stamp s = raiseFlag p.owner .late
               (s.setSch { s.sch with activeUrgent := some { p with judgement := .late } }))))

/-! ### Trigger sources -/

/-- SET_TRIGGER and STOP_CADENCE: refused with NOT_OWNER, and with BAD_ARGUMENT for a source of the
other kind or an undefined edge; taken, SET_TRIGGER writes the edge and keeps the reference level,
and STOP_CADENCE stops the timer and keeps its period, in either cadence state (R79, R83).
SET_CADENCE and START_CADENCE: refused with BAD_ARGUMENT for a source not in 4 to 7 or a period
outside 10 to 1,000,000, with NOT_OWNER, and with WRONG_STATE while the timer runs; taken in
STOPPED, SET_CADENCE writes the period and START_CADENCE schedules the first expiry one period after
the frame (R81, R82). -/
def Obligations.TriggerSettings : Prop :=
  (∀ (x : Port) (tag : Tag) (w e : Word) (n : Fin 4) (s : State), admitted x s = true →
     (3 < w.toNat ∨ 2 < e.toNat →
       exec (.setTrigger x tag [w, e]) s = .next (refused x .badArgument tag s))
     ∧ (w.toNat < 4 ∨ 7 < w.toNat →
       exec (.stopCadence x tag [w]) s = .next (refused x .badArgument tag s))
     ∧ (w.toNat = n.val → ∀ edge, edgeOf e = some edge →
       exec (.setTrigger x tag [w, e]) s = .next
         (if tget s.trg.owner (lineSource n) = some x then
           answered x .setTrigger tag [] ((endFrame x s).setTrg { s.trg with
             line := tset s.trg.line n ⟨edge, (tget s.trg.line n).level⟩ })
         else refused x .notOwner tag s))
     ∧ (w.toNat = n.val + 4 →
       exec (.stopCadence x tag [w]) s = .next
         (if tget s.trg.owner (timerSource n) = some x then
           answered x .stopCadence tag [] ((endFrame x s).setTrg { s.trg with
             timer := tset s.trg.timer n ⟨(tget s.trg.timer n).period, .stopped⟩ })
         else refused x .notOwner tag s)))
  ∧ (∀ (x : Port) (tag : Tag) (w hi lo : Word) (n : Fin 4) (s : State), admitted x s = true →
       (w.toNat < 4 ∨ 7 < w.toNat ∨ hi.toNat * 65536 + lo.toNat < 10
           ∨ 1000000 < hi.toNat * 65536 + lo.toNat →
         exec (.setCadence x tag [w, hi, lo]) s = .next (refused x .badArgument tag s))
       ∧ (w.toNat < 4 ∨ 7 < w.toNat →
         exec (.startCadence x tag [w]) s = .next (refused x .badArgument tag s))
       ∧ (w.toNat = n.val + 4 → 10 ≤ hi.toNat * 65536 + lo.toNat →
           hi.toNat * 65536 + lo.toNat ≤ 1000000 →
         (tget s.trg.owner (timerSource n) ≠ some x →
           exec (.setCadence x tag [w, hi, lo]) s = .next (refused x .notOwner tag s)
           ∧ exec (.startCadence x tag [w]) s = .next (refused x .notOwner tag s))
         ∧ (tget s.trg.owner (timerSource n) = some x →
           (∀ d, (tget s.trg.timer n).run = .running d →
             exec (.setCadence x tag [w, hi, lo]) s = .next (refused x .wrongState tag s)
             ∧ exec (.startCadence x tag [w]) s = .next (refused x .wrongState tag s))
           ∧ ((tget s.trg.timer n).run = .stopped →
             exec (.setCadence x tag [w, hi, lo]) s
               = .next (answered x .setCadence tag [] ((endFrame x s).setTrg { s.trg with
                   timer := tset s.trg.timer n
                     ⟨BitVec.ofNat 32 (hi.toNat * 65536 + lo.toNat), .stopped⟩ }))
             ∧ exec (.startCadence x tag [w]) s
               = .next (answered x .startCadence tag [] ((endFrame x s).setTrg { s.trg with
                   timer := tset s.trg.timer n ⟨(tget s.trg.timer n).period,
                     .running (s.tmb.counter + (tget s.trg.timer n).period)⟩ }))))))

/-- A transition of a trigger line moves the reference level; on an unowned source, or where the
edge setting does not match the direction, nothing else happens, and otherwise it is a trigger
arrival at the present time. A cadence expiry schedules the next one on the grid and is an arrival
at the scheduled time (R78, R80). -/
def Obligations.LinesAndCadences : Prop :=
  (∀ (n : Fin 4) (l : Level) (s : State), s.resetActive = false → (tget s.trg.line n).level ≠ l →
    ∀ u, u = s.setTrg { s.trg with line := tset s.trg.line n ⟨(tget s.trg.line n).edge, l⟩ } →
    ∀ active : Prop, (active ↔ ((tget s.trg.line n).edge = .both
        ∨ ((tget s.trg.line n).edge = .rising ∧ l = .high)
        ∨ ((tget s.trg.line n).edge = .falling ∧ l = .low))) →
    (tget s.trg.owner (lineSource n) = none ∨ ¬ active →
      exec (.lineTransition n l) s = .next u)
    ∧ (tget s.trg.owner (lineSource n) ≠ none → active →
      exec (.lineTransition n l) s = .next (triggerArrival (lineSource n) s.tmb.counter u)))
  ∧ ∀ (n : Fin 4) (due : Time) (s : State), (tget s.trg.timer n).run = .running due →
    exec (.cadenceExpiry n) s
      = .next (triggerArrival (timerSource n) due (s.setTrg { s.trg with
          timer := tset s.trg.timer n ⟨(tget s.trg.timer n).period,
            .running (due + (tget s.trg.timer n).period)⟩ }))

/-- A trigger arrival is dropped with no bound sequence and in DEFINED and STOPPING; in PENDING and
RUNNING it raises the miss count, saturating at 255; in ARMED a held miss count is first reported by
a TRIGGERS_MISSED notice with the arrival's time, then the sequence is PENDING with miss count 0,
then the urgent request is made with the sequence's budget (R56, R84, R85). -/
def Obligations.TriggerArrivals : Prop :=
  ∀ (n : SourceId) (t : Time) (s : State),
    (tget s.trg.bound n = none → triggerArrival n t s = s)
    ∧ ∀ id q, tget s.trg.bound n = some id → sequence id s = some q →
      (q.state = .defined ∨ q.state = .stopping → triggerArrival n t s = s)
      ∧ (q.state = .pending ∨ q.state = .running →
        triggerArrival n t s = setSequence id (some { q with misses := min 255 (q.misses + 1) }) s)
      ∧ (q.state = .armed → ∀ b, (b = match q.kind with | .triggered _ d => d | _ => 0) →
        (q.misses = 0 →
          triggerArrival n t s
            = urgentRequest id b t (setSequence id (some { q with state := .pending }) s))
        ∧ (0 < q.misses →
          triggerArrival n t s
            = urgentRequest id b t (setSequence id (some { q with state := .pending, misses := 0 })
                (appendNotice q.owner (.triggersMissed id q.pass q.misses) t s))))

/-! ### Result queues -/

/-- An append below 64 records joins the tail with the gap counter, which returns to 0, and sets
RESULTS exactly when the count reaches the watermark; at 64 the record is discarded, the gap counter
rises, saturating at 255, and GAP is set (R95). -/
def Obligations.Append : Prop :=
  ∀ (x : Port) (mk : Nat → Record) (s : State), ∀ q, q = resultQueue x s →
    (q.records.length < 64 → q.records.length + 1 = q.watermark →
      appendRecord x mk s = raiseFlag x .results
        (setQueue x ⟨q.records ++ [mk q.gap], q.delivered, 0, q.watermark⟩ s))
    ∧ (q.records.length < 64 → q.records.length + 1 ≠ q.watermark →
      appendRecord x mk s = setQueue x ⟨q.records ++ [mk q.gap], q.delivered, 0, q.watermark⟩ s)
    ∧ (64 ≤ q.records.length →
      appendRecord x mk s = raiseFlag x .gap
        (setQueue x ⟨q.records, q.delivered, min 255 (q.gap + 1), q.watermark⟩ s))

/-- READ_RESULTS in an OPEN or LAPSED session: BAD_ARGUMENT, then BAD_ACK when k exceeds delivered;
taken, the oldest k records leave, the oldest min(n, count) of the rest are copied and counted in
delivered, and a fall below 64 lets a FREE scheduler dispatch; the unused bits of the summary are 0
(R62, R96, R97, R171). -/
def Obligations.ReadResults : Prop :=
  ∀ (x : Port) (tag : Tag) (k n : Word) (s : State), takesFrame x s = true → started s = true →
    session x s ≠ .closed → ∀ q, q = resultQueue x s →
    (8 < k.toNat ∨ n = 0 ∨ 8 < n.toNat →
      exec (.readResults x tag [k, n]) s = .next (refused x .badArgument tag s))
    ∧ (k.toNat ≤ 8 → 1 ≤ n.toNat → n.toNat ≤ 8 →
      (q.delivered < k.toNat →
        exec (.readResults x tag [k, n]) s = .next (refused x .badAck tag s))
      ∧ (k.toNat ≤ q.delivered → ∃ summary : Word,
        summary.extractLsb' 8 8 = BitVec.ofNat 8 (q.records.length - k.toNat)
        ∧ summary.extractLsb' 4 4 = 0
        ∧ summary.extractLsb' 0 4 = BitVec.ofNat 4 (min n.toNat (q.records.length - k.toNat))
        ∧ ∀ u, u = setQueue x ⟨q.records.drop k.toNat,
              min n.toNat (q.records.length - k.toNat), q.gap, q.watermark⟩ (endFrame x s) →
          exec (.readResults x tag [k, n]) s
            = .next (answered x .readResults tag
                (summary :: ((q.records.drop k.toNat).take n.toNat).flatMap recordWords)
                (if 64 ≤ q.records.length ∧ q.records.length - k.toNat < 64
                  then dispatchIfFree u else u))))

/-- FLUSH: NO_SESSION in a CLOSED session; in an OPEN or LAPSED one the gap counter is the payload,
the queue is empty with delivered and gap counter 0 and the watermark kept, and where the count was
64 a dispatch follows if the view is FREE (R99). -/
def Obligations.Flush : Prop :=
  ∀ (x : Port) (tag : Tag) (s : State), takesFrame x s = true → started s = true →
    (session x s = .closed → exec (.flush x tag []) s = .next (refused x .noSession tag s))
    ∧ (session x s ≠ .closed →
      ∀ u, u = setQueue x ⟨[], 0, 0, (resultQueue x s).watermark⟩ (endFrame x s) →
      exec (.flush x tag []) s
        = .next (answered x .flush tag
            [(0 : BitVec 8) ++ BitVec.ofNat 8 (resultQueue x s).gap]
            (if 64 ≤ queueCount x s then dispatchIfFree u else u)))

/-- MARK: refused with FULL at 64 records with the gap counter unchanged, otherwise a MARK notice
with the argument and the time of the frame joins the sender's queue (R91, R101). SET_WATERMARK
writes the watermark, and sets RESULTS at once when the count is at least the new value; outside 1
to 64 it is refused with BAD_ARGUMENT (R102). -/
def Obligations.MarkAndWatermark : Prop :=
  (∀ (x : Port) (tag : Tag) (v : Word) (s : State), takesFrame x s = true → started s = true →
     (sessionOpen x s = false → exec (.mark x tag [v]) s = .next (refused x .noSession tag s))
     ∧ (sessionOpen x s = true →
       (64 ≤ queueCount x s → exec (.mark x tag [v]) s = .next (refused x .full tag s))
       ∧ (queueCount x s < 64 →
         exec (.mark x tag [v]) s = .next (answered x .mark tag []
           (appendRecord x (fun gap => .notice (.mark v) s.tmb.counter gap) (endFrame x s))))))
  ∧ (∀ (x : Port) (tag : Tag) (w : Word) (s : State), takesFrame x s = true → started s = true →
       (sessionOpen x s = false →
         exec (.setWatermark x tag [w]) s = .next (refused x .noSession tag s))
       ∧ (sessionOpen x s = true → ∀ q, q = resultQueue x s →
         (w = 0 ∨ 64 < w.toNat →
           exec (.setWatermark x tag [w]) s = .next (refused x .badArgument tag s))
         ∧ (1 ≤ w.toNat → w.toNat ≤ 64 →
           ∀ u, u = setQueue x ⟨q.records, q.delivered, q.gap, w.toNat⟩ (endFrame x s) →
           exec (.setWatermark x tag [w]) s = .next (answered x .setWatermark tag []
             (if w.toNat ≤ queueCount x s then raiseFlag x .results u else u)))))

/-! ### Monitors and the trip latch -/

/-- SET_MONITOR: BAD_ARGUMENT, judged on the exact integer sums, then NOT_OWNER, FOREIGN and
WRONG_STATE; taken on an OFF monitor of the sender, it writes every setting and leaves the monitor
OFF (R110). MONITOR_ON and MONITOR_OFF of a monitor by number, a number above 7 being BAD_ARGUMENT:
MONITOR_ON is refused with NOT_OWNER,
FOREIGN and WRONG_STATE in that order and otherwise starts the monitor WITHIN at outside count 0;
MONITOR_OFF is taken in every state, turns the monitor OFF at outside count 0 and keeps its settings
(R111, R112). -/
def Obligations.MonitorCommands : Prop :=
  (∀ (x : Port) (tag : Tag) (mn ch low high hyst cnt act : Word) (s : State), admitted x s = true →
     (8 ≤ mn.toNat ∨ 32 ≤ ch.toNat ∨ high.toInt < low.toInt ∨ 4095 < hyst.toNat
         ∨ high.toInt - (hyst.toNat : Int) < low.toInt + (hyst.toNat : Int)
         ∨ cnt = 0 ∨ 15 < cnt.toNat ∨ 2 ≤ act.toNat →
       exec (.setMonitor x tag [mn, ch, low, high, hyst, cnt, act]) s
         = .next (refused x .badArgument tag s))
     ∧ ∀ (i : MonId) (c : Channel) (a : MonAction), mn.toNat = i.val → ch.toNat = c.val →
       actionOf act = some a → low.toInt ≤ high.toInt → hyst.toNat ≤ 4095 →
       low.toInt + (hyst.toNat : Int) ≤ high.toInt - (hyst.toNat : Int) →
       1 ≤ cnt.toNat → cnt.toNat ≤ 15 →
       exec (.setMonitor x tag [mn, ch, low, high, hyst, cnt, act]) s = .next
         (if (monitor i s).owner ≠ some x then refused x .notOwner tag s
          else if foreignTo x c s = true then refused x .foreign tag s
          else if (monitor i s).state ≠ .off ∨ absorbed c s = true then refused x .wrongState tag s
          else answered x .setMonitor tag []
           (setMonitorAt i ⟨some x, c, low, high, hyst, cnt.toNat, a, .off, 0⟩ (endFrame x s))))
  ∧ (∀ (x : Port) (tag : Tag) (w : Word) (s : State), admitted x s = true → 7 < w.toNat →
       exec (.monitorOn x tag [w]) s = .next (refused x .badArgument tag s)
       ∧ exec (.monitorOff x tag [w]) s = .next (refused x .badArgument tag s))
  ∧ (∀ (x : Port) (tag : Tag) (w : Word) (i : MonId) (m : Monitor) (s : State), admitted x s = true →
       w.toNat = i.val → m = monitor i s →
       exec (.monitorOn x tag [w]) s = .next
         (if m.owner ≠ some x then refused x .notOwner tag s
          else if foreignTo x m.channel s = true then refused x .foreign tag s
          else if m.state ≠ .off ∨ m.count = 0 ∨ absorbed m.channel s = true then
            refused x .wrongState tag s
          else answered x .monitorOn tag []
           (setMonitorAt i { m with state := .within, outside := 0 } (endFrame x s)))
       ∧ (m.owner ≠ some x → exec (.monitorOff x tag [w]) s = .next (refused x .notOwner tag s))
       ∧ (m.owner = some x → m.state ≠ .off →
         exec (.monitorOff x tag [w]) s = .next (answered x .monitorOff tag []
           (setMonitorAt i { m with state := .off, outside := 0 } (endFrame x s))))
       ∧ (m.owner = some x → m.state = .off →
         exec (.monitorOff x tag [w]) s = .next (answered x .monitorOff tag [] (endFrame x s))))

/-- The evaluation of an ON monitor on a value, in the nine cells of the table, and none of an OFF
one (R109, R113). -/
def Obligations.MonitorEvaluation : Prop :=
  ∀ (m : Monitor) (v : Word), ∀ out band : Prop,
    (out ↔ v.toInt < m.low.toInt ∨ m.high.toInt < v.toInt) →
    (band ↔ m.low.toInt + (m.hysteresis.toNat : Int) ≤ v.toInt
      ∧ v.toInt ≤ m.high.toInt - (m.hysteresis.toNat : Int)) →
    (m.state = .off → m.evaluate v = m)
    ∧ (m.state = .within →
      (¬ out → m.evaluate v = m)
      ∧ (out → m.count = 1 → m.evaluate v = { m with outside := 1, state := .violated })
      ∧ (out → m.count ≠ 1 → m.evaluate v = { m with outside := 1, state := .counting }))
    ∧ (m.state = .counting →
      (¬ out → m.evaluate v = { m with outside := 0, state := .within })
      ∧ (out → m.outside + 1 = m.count →
        m.evaluate v = { m with outside := m.count, state := .violated })
      ∧ (out → m.outside + 1 ≠ m.count → m.evaluate v = { m with outside := m.outside + 1 }))
    ∧ (m.state = .violated →
      (band → m.evaluate v = { m with outside := 0, state := .within })
      ∧ (¬ band → m.evaluate v = m))

/-- A value handed to the monitors evaluates every monitor on the channel and no other, sets MONITOR
at the owner of a monitor that enters VIOLATED, and adds the cause of one with action TRIP; where
none enters VIOLATED only the monitors change. The causes added are exactly those of the monitors
with action TRIP that enter VIOLATED, in one addition after the flags; where there is none, as for a
monitor with action ALERT, the latch is as it was, and nothing else changes beside monitors and
flags (R106, R113, R114, R120). -/
def Obligations.MonitorViolations : Prop :=
  (∀ (c : Channel) (v : Word) (s : State) (i : MonId),
    monitor i (evaluateMonitors c v s)
      = if (monitor i s).channel = c then (monitor i s).evaluate v else monitor i s)
  ∧ (∀ (c : Channel) (v : Word) (s : State),
    (∀ i, (monitor i s).channel = c → (monitor i s).state ≠ .violated →
      ((monitor i s).evaluate v).state ≠ .violated) →
    evaluateMonitors c v s = s.setMon (evaluateMonitors c v s).mon)
  ∧ (∀ (c : Channel) (v : Word) (s : State) (i : MonId) (x : Port),
    (monitor i s).channel = c → (monitor i s).state ≠ .violated →
    ((monitor i s).evaluate v).state = .violated → (monitor i s).owner = some x →
      (hostPort x (evaluateMonitors c v s)).flags &&& 0x010 ≠ 0
      ∧ ((monitor i s).action = .trip →
        (evaluateMonitors c v s).trp.state = .tripped
        ∧ (evaluateMonitors c v s).trp.causes &&& ((1 : CauseSet) <<< (i.val + 4)) ≠ 0))
  ∧ ∀ (c : Channel) (v : Word) (s : State), ∀ enters : MonId → Prop,
    (∀ i, enters i ↔ (monitor i s).channel = c ∧ (monitor i s).state ≠ .violated
      ∧ ((monitor i s).evaluate v).state = .violated) →
    ∀ tells : Port → Bool, (∀ x, tells x = true ↔ ∃ i, enters i ∧ (monitor i s).owner = some x) →
    ∀ added : CauseSet, (∀ k : Fin 12, added.getLsbD k.val = true ↔
      ∃ i : MonId, k.val = i.val + 4 ∧ enters i ∧ (monitor i s).action = .trip) →
    ∀ u : State, u = (fun a => if tells .B = true then raiseFlag .B .monitor a else a)
      ((fun a => if tells .A = true then raiseFlag .A .monitor a else a)
        (s.setMon (evaluateMonitors c v s).mon)) →
      (added = 0 → evaluateMonitors c v s = u ∧ u.trp = s.trp)
      ∧ (added ≠ 0 → evaluateMonitors c v s = addCauses added u
        ∧ (evaluateMonitors c v s).trp = match s.trp.state with
          | .armed => { s.trp with
              state := .tripped, causes := added, line := stopLevel s.trp.polarity }
          | .tripped => { s.trp with causes := s.trp.causes ||| added })

/-- Causes added in ARMED trip the latch, take the line to its stop level and give each port whose
session is OPEN a TRIP notice with the set and the TRIP flag, A first; in TRIPPED they join the set
and nothing else changes. FORCE_TRIP adds HOST_x, and TRIPIN going active adds EXT while its going
inactive changes no cause (R120, R121, R122). -/
def Obligations.CausesAdded : Prop :=
  (∀ (added : CauseSet) (s : State),
    (s.trp.state = .tripped →
      addCauses added s = s.setTrp { s.trp with causes := s.trp.causes ||| added })
    ∧ (s.trp.state = .armed →
      ∀ tell : Port → State → State, (∀ x u, tell x u =
        if sessionOpen x u = true then
          raiseFlag x .trip (appendNotice x (.trip added) u.tmb.counter u) else u) →
      addCauses added s = tell .B (tell .A (s.setTrp { s.trp with
        state := .tripped, causes := added, line := stopLevel s.trp.polarity }))))
  ∧ (∀ (x : Port) (tag : Tag) (s : State), takesFrame x s = true → started s = true →
    (sessionOpen x s = false → exec (.forceTrip x tag []) s = .next (refused x .noSession tag s))
    ∧ (sessionOpen x s = true →
      exec (.forceTrip x tag []) s = .next (answered x .forceTrip tag []
        (addCauses (match x with | .A => 0x004 | .B => 0x008) (endFrame x s)))))
  ∧ ∀ (s : State), s.resetActive = false →
    (s.trp.tripin = .inactive → exec (.tripinChange .low) s
      = .next (addCauses 0x002 (s.setTrp { s.trp with tripin := .active })))
    ∧ (s.trp.tripin = .active → exec (.tripinChange .high) s
      = .next (s.setTrp { s.trp with tripin := .inactive }))

/-- TRIP_ACK from port x, taken in every latch state, removes exactly the causes x can vouch for;
the latch rearms, with the line at its run level and TRIP_CLEARED and REARMED to each open port,
exactly when that empties the set of a TRIPPED latch. TRIP_STATUS reports the same removable set and
changes nothing (R123, R125). -/
def Obligations.TripAcknowledge : Prop :=
  ∀ (x : Port) (tag : Tag) (s : State), admitted x s = true → ∀ gone : CauseSet,
    (∀ k : Fin 12, gone.getLsbD k.val = (s.trp.causes.getLsbD k.val &&
      (if k = 0 then true
       else if k = 1 then s.trp.tripin == .inactive
       else if k = 2 then x == .A || !sessionOpen .A s
       else if k = 3 then x == .B || !sessionOpen .B s
       else decide (∃ i : MonId, k.val = i.val + 4 ∧ (monitor i s).state ≠ .violated
        ∧ ((monitor i s).owner = some x ∨ (monitor i s).owner = none))))) →
    ∃ u, exec (.tripAck x tag []) s
        = .next (answered x .tripAck tag
            [bit (u.trp.state == .tripped) ++ (0 : BitVec 3) ++ u.trp.causes] u)
      ∧ (s.trp.state = .armed → u = endFrame x s)
      ∧ (s.trp.state = .tripped → s.trp.causes &&& ~~~gone ≠ 0 →
        u = (endFrame x s).setTrp { s.trp with causes := s.trp.causes &&& ~~~gone })
      ∧ (s.trp.state = .tripped → s.trp.causes &&& ~~~gone = 0 →
        u = noticeOpenPorts .tripCleared .rearmed ((endFrame x s).setTrp { s.trp with
          state := .armed, causes := 0, line := runLevel s.trp.polarity }))
      ∧ exec (.tripStatus x tag []) s
        = .next (answered x .tripStatus tag
            [bit (s.trp.state == .tripped) ++ bit (s.trp.tripin == .active)
              ++ bit (s.trp.polarity == .high) ++ (0 : BitVec 1) ++ s.trp.causes,
             gone.setWidth 16] (endFrame x s))

/-! ### Timebase -/

/-- READ_TIME and READ_SYNC, in every session state, and READ_CLOCK_CHECK in an OPEN session, return
the counter, the capture with its count, and the check's state, mark and last result as they stand,
and change nothing else, with unused bits 0; in STARTING they are refused with NOT_READY (R145,
R147, R152, R171). That READ_CLOCK_CHECK reports the check as it stands when the frame is taken is
the model's choice: it follows R152 against the table of R151 (assumption 28). -/
def Obligations.ReadTimebase : Prop :=
  ∀ (x : Port) (tag : Tag) (s : State), takesFrame x s = true →
    (s.cnv.state = .starting →
      exec (.readTime x tag []) s = .next (refused x .notReady tag s)
      ∧ exec (.readSync x tag []) s = .next (refused x .notReady tag s)
      ∧ exec (.readClockCheck x tag []) s = .next (refused x .notReady tag s))
    ∧ (started s = true →
      exec (.readTime x tag []) s = .next (answered x .readTime tag
        [s.tmb.counter.extractLsb' 16 16, s.tmb.counter.extractLsb' 0 16] (endFrame x s))
      ∧ exec (.readSync x tag []) s = .next (answered x .readSync tag
        [s.tmb.syncCapture.extractLsb' 16 16, s.tmb.syncCapture.extractLsb' 0 16, s.tmb.syncCount]
        (endFrame x s))
      ∧ (sessionOpen x s = false →
        exec (.readClockCheck x tag []) s = .next (refused x .noSession tag s))
      ∧ (sessionOpen x s = true → ∃ h : Word,
        exec (.readClockCheck x tag []) s = .next (answered x .readClockCheck tag
          [h, BitVec.ofNat 16 s.tmb.lastCount, s.tmb.lastTime.extractLsb' 16 16,
           s.tmb.lastTime.extractLsb' 0 16] (endFrame x s))
        ∧ h.getLsbD 15 = s.tmb.check.isSome
        ∧ h.getLsbD 14 = (s.tmb.check.any fun k => k.marks.get x)
        ∧ h.extractLsb' 3 11 = 0
        ∧ h.extractLsb' 0 3 = verdictCode s.tmb.lastVerdict))

/-- CHECK_CLOCK starts a check in IDLE, awaiting an edge with the sender's mark and tick count 0
(STARTED, 0), and joins a running one by adding the sender's mark alone (JOINED, 1) (R149). The
events of a running check: the first REFCLK edge opens the count, further edges count periods, the
8th completes with the verdict of the table on a count below 8191, and the tick limit completes with
NO_REFERENCE and count 0 or 8191 by the phase; the completion stores count, verdict and time, sets
CLOCK at each marked port and leaves IDLE; REFCLK in IDLE is not taken (R150). -/
def Obligations.ClockChecks : Prop :=
  (∀ (x : Port) (tag : Tag) (s : State), takesFrame x s = true →
     (s.cnv.state = .starting →
       exec (.checkClock x tag []) s = .next (refused x .notReady tag s))
     ∧ (started s = true → sessionOpen x s = false →
       exec (.checkClock x tag []) s = .next (refused x .noSession tag s))
     ∧ (admitted x s = true →
       (s.tmb.check = none →
         exec (.checkClock x tag []) s = .next (answered x .checkClock tag [0]
           ((endFrame x s).setTmb { s.tmb with check := some ⟨.awaitingEdge,
             match x with | .A => ⟨true, false⟩ | .B => ⟨false, true⟩, 0⟩ })))
       ∧ ∀ k, s.tmb.check = some k →
         exec (.checkClock x tag []) s = .next (answered x .checkClock tag [1]
           ((endFrame x s).setTmb { s.tmb with
             check := some ⟨k.phase, k.marks.set x true, k.ticks⟩ }))))
  ∧ ((∀ s : State, s.tmb.check = none → exec .refclkEdge s = .next s)
     ∧ ∀ (s : State) (k : RunningCheck), s.tmb.check = some k →
       ∀ done : ClockVerdict → Nat → State, (∀ v n, done v n =
         (fun u => if k.marks.b = true then raiseFlag .B .clock u else u)
           ((fun u => if k.marks.a = true then raiseFlag .A .clock u else u)
             (s.setTmb { s.tmb with
               check := none, lastVerdict := v, lastCount := n, lastTime := s.tmb.counter }))) →
       (k.phase = .awaitingEdge →
         exec .refclkEdge s
           = .next (s.setTmb { s.tmb with check := some ⟨.counting 0, k.marks, 0⟩ })
         ∧ exec .checkTickCountLimit s = .next (done .noReference 0))
       ∧ ∀ p, k.phase = .counting p →
         (p < 7 → exec .refclkEdge s
           = .next (s.setTmb { s.tmb with check := some ⟨.counting (p + 1), k.marks, k.ticks⟩ }))
         ∧ (p = 7 → k.ticks ≤ 3827 → exec .refclkEdge s = .next (done .oscSlow k.ticks))
         ∧ (p = 7 → 3828 ≤ k.ticks → k.ticks ≤ 3984 → exec .refclkEdge s = .next (done .good k.ticks))
         ∧ (p = 7 → 3985 ≤ k.ticks → k.ticks ≤ 8190 →
           exec .refclkEdge s = .next (done .oscFast k.ticks))
         ∧ exec .checkTickCountLimit s = .next (done .noReference 8191))

/-- One oscillator tick: the counter rises every 16 ticks and the tick count of a running check
every tick; nothing counts while RESETN is active; with no timer due nothing else happens, and a
timer that falls due alone is taken by its own event. That a tick is what a step on an empty queue
does is the model's choice (R144, R148; assumption 5), and so is the free order of two timers due at
one tick (assumption 6). A timer is due when the counter stands at the end of the settle time of the
measurement in SETTLING, at the next expiry of a RUNNING cadence timer, at the warning or the expiry
of the lease of an OPEN session, or at the end of the consent window, and the clock check's when its
tick count has reached 8191; each is the event of its row (R22, R80, R126, R130, R131, R139, R141,
R150). A rising transition of SYNC captures the
counter and raises the count modulo 65536; a falling one updates the reference level alone (R146). -/
def Obligations.TickAndSync : Prop :=
  ((∀ s : State, s.resetActive = true → tick s = s)
   ∧ ∀ (s u : State), s.resetActive = false →
     u = s.setTmb { s.tmb with
       subTick := s.tmb.subTick + 1
       counter := if s.tmb.subTick = 15 then s.tmb.counter + 1 else s.tmb.counter
       check := s.tmb.check.map fun k => { k with ticks := min 8191 (k.ticks + 1) } } →
     (dueTimers u = [] → tick s = u)
     ∧ (∀ k, dueTimers u = [k] → dueTimers (takeTimer k u) = [] → tick s = takeTimer k u)
     ∧ ∀ a b, dueTimers u = [a, b] → ∃ k o, (k = a ∧ o = b ∨ k = b ∧ o = a)
       ∧ ∀ v, v = takeTimer k (u.setChoice (u.choice + 1)) →
         (dueTimers v = [] → tick s = v)
         ∧ (dueTimers v = [o] → dueTimers (takeTimer o v) = [] → tick s = takeTimer o v))
  ∧ (∀ s : State,
       (.settle ∈ dueTimers s ↔ ∃ m, s.cnv.state = .settling m s.tmb.counter)
       ∧ (∀ n, .cadence n ∈ dueTimers s ↔ (tget s.trg.timer n).run = .running s.tmb.counter)
       ∧ (∀ x, .warning x ∈ dueTimers s ↔
         ∃ l, session x s = .opened l ∧ l.warning = some s.tmb.counter)
       ∧ (∀ x, .lease x ∈ dueTimers s ↔ ∃ l, session x s = .opened l ∧ l.expiry = s.tmb.counter)
       ∧ (.consent ∈ dueTimers s ↔ ∃ c, s.ses.consent = some c ∧ c.expiry = s.tmb.counter)
       ∧ (.checkLimit ∈ dueTimers s ↔ ∃ k, s.tmb.check = some k ∧ 8191 ≤ k.ticks)
       ∧ exec .settleExpiry s = .next (takeTimer .settle s)
       ∧ (∀ n, exec (.cadenceExpiry n) s = .next (takeTimer (.cadence n) s))
       ∧ (∀ x, exec (.leaseWarning x) s = .next (takeTimer (.warning x) s)
         ∧ exec (.leaseExpiry x) s = .next (takeTimer (.lease x) s))
       ∧ exec .consentWindowExpiry s = .next (takeTimer .consent s)
       ∧ exec .checkTickCountLimit s = .next (takeTimer .checkLimit s))
  ∧ (∀ (s : State), s.resetActive = false →
       (s.tmb.syncLevel = .low →
         exec (.syncEdge .high) s = .next (s.setTmb { s.tmb with
           syncLevel := .high, syncCapture := s.tmb.counter, syncCount := s.tmb.syncCount + 1 }))
       ∧ (s.tmb.syncLevel = .high →
         exec (.syncEdge .low) s = .next (s.setTmb { s.tmb with syncLevel := .low })))

/-! ### Host ports -/

/-- STATUS and IDENT in every converter and session state: the four words of each, read when the
frame is taken, with unused bits 0, and no other change but the renewal (R163, R164, R171). REPEAT with no argument leaves the
pending response in place in every converter and session state, renews nothing and changes nothing
but the receiver; with arguments it is refused with BAD_ARGUMENT, which replaces the pending
response (R159, R161). -/
def Obligations.StatusIdentRepeat : Prop :=
  (∀ (x : Port) (tag : Tag) (s : State), takesFrame x s = true →
     (∃ h q : Word, exec (.status x tag []) s = .next (answered x .status tag
         [h, (hostPort x s).flags.setWidth 16, (hostPort x s).mask.setWidth 16, q] (endFrame x s))
       ∧ h.getLsbD 15 = started s ∧ h.getLsbD 14 = (s.cnv.trimState == .trimFault)
       ∧ h.extractLsb' 12 2 = sessionCode (session x s)
       ∧ h.extractLsb' 10 2 = sessionCode (session (otherPort x) s)
       ∧ h.extractLsb' 8 2 = consentCode s.ses.consent
       ∧ h.getLsbD 7 = (s.trp.state == .tripped) ∧ h.extractLsb' 0 7 = 0
       ∧ q.extractLsb' 8 8 = BitVec.ofNat 8 (queueCount x s) ∧ q.extractLsb' 4 4 = 0
       ∧ q.extractLsb' 0 4 = BitVec.ofNat 4 (resultQueue x s).delivered)
     ∧ exec (.ident x tag []) s = .next (answered x .ident tag
         [0x6A71, 2432, 1, match x with | .A => 1 | .B => 2] (endFrame x s)))
  ∧ (∀ (x : Port) (tag : Tag) (args : List Word) (s : State), takesFrame x s = true →
       exec (.repeatLast x tag args) s
         = .next (if args = [] then endFrame x s else refused x .badArgument tag s))

/-- ACK_EVENTS clears the flags named and no other, and returns those that remain; SET_ALERT_MASK
replaces the mask and keeps the flags; ALERT is re-evaluated in the event; a bit above bit 10 is
BAD_ARGUMENT (R167, R168, R169). -/
def Obligations.EventsAndMask : Prop :=
  ∀ (x : Port) (tag : Tag) (w : Word) (s : State), takesFrame x s = true → started s = true →
    (sessionOpen x s = false →
      exec (.ackEvents x tag [w]) s = .next (refused x .noSession tag s)
      ∧ exec (.setAlertMask x tag [w]) s = .next (refused x .noSession tag s))
    ∧ (sessionOpen x s = true →
      (2048 ≤ w.toNat →
        exec (.ackEvents x tag [w]) s = .next (refused x .badArgument tag s)
        ∧ exec (.setAlertMask x tag [w]) s = .next (refused x .badArgument tag s))
      ∧ (w.toNat < 2048 → ∀ f : FlagSet, f = (hostPort x s).flags &&& ~~~(w.setWidth 11) →
        exec (.ackEvents x tag [w]) s = .next (answered x .ackEvents tag [f.setWidth 16]
          (setHostPort x { hostPort x s with
            receiver := .idle, dataOut := .undriven, flags := f
            alert := f &&& (hostPort x s).mask != 0 } s))
        ∧ exec (.setAlertMask x tag [w]) s = .next (answered x .setAlertMask tag []
          (setHostPort x { hostPort x s with
            receiver := .idle, dataOut := .undriven, mask := w.setWidth 11
            alert := (hostPort x s).flags &&& w.setWidth 11 != 0 } s))))

/-! ### Laws that every step keeps -/

/-- Law 1: every step keeps the converter view in agreement with the converter. Law 9: with it, every
step keeps the restart counts within 0 to 3, and at 0 outside CONTINUOUS sequences, together with
what a background measurement and a pending cut stand for (R64, R66). -/
def Obligations.ViewAgreesKept : Prop :=
  (∀ s t : State, viewAgrees s → step s = .next t → viewAgrees t)
  ∧ ∀ s t : State, viewAgrees s ∧ restartsSane s ∧ cutsAgree s → step s = .next t →
      restartsSane t ∧ cutsAgree t

/-- From Laws 3 and 4: every step keeps exactly one queued request of each PENDING sequence, none of
any other, and each sequence's prompt entry its owner's. With that and Laws 1 and 9, every step keeps
active passes and measurements in flight to sequences in RUNNING or STOPPING, so that, as the second
half of Law 4 says, a PENDING sequence is no active pass and not the producer of the measurement in
flight (R57). -/
def Obligations.RequestsAgreeKept : Prop :=
  (∀ s t : State, requestsAgree s → step s = .next t → requestsAgree t)
  ∧ (∀ s t : State, viewAgrees s ∧ restartsSane s ∧ cutsAgree s ∧ requestsAgree s ∧ passesAgree s →
      step s = .next t → passesAgree t)
  ∧ ∀ s : State, passesAgree s → ∀ id q, sequence id s = some q → q.state = .pending →
      (∀ p, s.sch.activeUrgent = some p → p.seq ≠ id)
      ∧ (∀ p, s.sch.activePrompt = some p → p.item ≠ .sequence id)
      ∧ ∀ m k, inFlight s = some m → m.step = some k → k.seq ≠ id

/-- Law 2: every step keeps both queues within their bounds. Law 3: every step keeps the prompt
queue within 8 entries and 4 of each port. -/
def Obligations.CapacitiesKept : Prop :=
  (∀ s t : State, queuesBounded s → step s = .next t → queuesBounded t)
  ∧ (∀ s t : State, promptBounded s → step s = .next t → promptBounded t)

/-- Law 5: every step keeps the owners' sessions OPEN. -/
def Obligations.OwnersOpenKept : Prop :=
  ∀ s t : State, ownersOpen s → step s = .next t → ownersOpen t

/-- Law 7: every step keeps the step store counts equal to the sums and within their bounds. -/
def Obligations.StepsCountedKept : Prop :=
  ∀ s t : State, stepsCounted s → step s = .next t → stepsCounted t

/-- Law 10: every step keeps latch, cause set and TRIP line in agreement. R169: every step keeps
both ALERT lines in agreement with flags and mask. -/
def Obligations.LinesAgreeKept : Prop :=
  (∀ s t : State, latchAgrees s → step s = .next t → latchAgrees t)
  ∧ (∀ s t : State, alertAgrees s → step s = .next t → alertAgrees t)

/-- R4 and R135: every step keeps the owner copies equal to the claim table, and unowned channels at
their defaults. Law 8: with that, every step keeps bindings and TRIGGERED sequences in agreement. -/
def Obligations.CopiesAgreeKept : Prop :=
  (∀ s t : State, copiesAgree s → step s = .next t → copiesAgree t)
  ∧ ∀ s t : State, copiesAgree s ∧ bindingsAgree s → step s = .next t → bindingsAgree t

/-- R109: every step keeps the monitors within their ranges, and unowned monitors at their released
values. Law 6: with that, the owner copies and Laws 3 and 4, every step keeps the channels of
enabled sequences and ON monitors neither foreign nor absorbed. -/
def Obligations.MonitorsSaneKept : Prop :=
  (∀ s t : State, monitorsSane s → step s = .next t → monitorsSane t)
  ∧ ∀ s t : State, copiesAgree s ∧ monitorsSane s ∧ requestsAgree s ∧ channelsHeld s →
      step s = .next t → channelsHeld t

/-- The state after reset meets every law that the steps keep. -/
def Obligations.ResetMeetsLaws : Prop :=
  viewAgrees State.reset ∧ queuesBounded State.reset ∧ promptBounded State.reset
    ∧ ownersOpen State.reset ∧ stepsCounted State.reset ∧ latchAgrees State.reset
    ∧ alertAgrees State.reset ∧ copiesAgree State.reset ∧ monitorsSane State.reset
    ∧ requestsAgree State.reset ∧ channelsHeld State.reset ∧ bindingsAgree State.reset
    ∧ restartsSane State.reset ∧ cutsAgree State.reset ∧ passesAgree State.reset
end

