-- ==== Sys2Proof/Laws/Inputs.lean ====
section
/-! SUPPORT. Where inputs lie on the code scale, and which whole codes a position can have. -/

namespace Sys2Proof.Machine

/-- A code's nominal input lies at that code (Table 1-3). -/
@[simp] theorem codePosition_nominalInput (r : Range) (c : Int) :
    codePosition r (nominalInput r c) = c := by
  cases r <;> simp [codePosition, nominalInput, inputPerCode, zeroInputCode]

/-- The code scale rises with the input. -/
theorem codePosition_mono (r : Range) {v w : Rat} (h : v ≤ w) :
    codePosition r v ≤ codePosition r w := by
  cases r <;> simp only [codePosition, inputPerCode] <;> gcongr

theorem codePosition_strictMono (r : Range) {v w : Rat} (h : v < w) :
    codePosition r v < codePosition r w := by
  cases r <;> simp only [codePosition, inputPerCode] <;> gcongr

/-- A position is rounded down or up, and which one is the free value's choice. -/
theorem wholeCode_eq (p : Rat) : wholeCode p = ⌊p⌋ ∨ wholeCode p = ⌈p⌉ := by
  unfold wholeCode
  split
  · right
    rw [show (-p).floor = ⌊-p⌋ from rfl, Int.floor_neg, neg_neg]
  · left
    rfl

/-- A whole position is its own code. -/
@[simp] theorem wholeCode_intCast (c : Int) : wholeCode c = c := by
  rcases wholeCode_eq c with h | h <;> simpa using h

end Sys2Proof.Machine
end

