-- ==== Sys2Proof/Laws/State.lean ====
section
/-! SUPPORT. What each setter of State leaves in each field. -/

namespace Sys2Proof.Machine

@[simp] theorem State.setCfe_cfe (s : State) (v : Vector Descriptor 24) : (s.setCfe v).cfe = v := rfl
@[simp] theorem State.setCfe_cnv (s : State) (v : Vector Descriptor 24) : (s.setCfe v).cnv = s.cnv := rfl
@[simp] theorem State.setCfe_seq (s : State) (v : Vector Descriptor 24) : (s.setCfe v).seq = s.seq := rfl
@[simp] theorem State.setCfe_sch (s : State) (v : Vector Descriptor 24) : (s.setCfe v).sch = s.sch := rfl
@[simp] theorem State.setCfe_trg (s : State) (v : Vector Descriptor 24) : (s.setCfe v).trg = s.trg := rfl
@[simp] theorem State.setCfe_res (s : State) (v : Vector Descriptor 24) : (s.setCfe v).res = s.res := rfl
@[simp] theorem State.setCfe_mon (s : State) (v : Vector Descriptor 24) : (s.setCfe v).mon = s.mon := rfl
@[simp] theorem State.setCfe_trp (s : State) (v : Vector Descriptor 24) : (s.setCfe v).trp = s.trp := rfl
@[simp] theorem State.setCfe_ses (s : State) (v : Vector Descriptor 24) : (s.setCfe v).ses = s.ses := rfl
@[simp] theorem State.setCfe_tmb (s : State) (v : Vector Descriptor 24) : (s.setCfe v).tmb = s.tmb := rfl
@[simp] theorem State.setCfe_host (s : State) (v : Vector Descriptor 24) : (s.setCfe v).host = s.host := rfl
@[simp] theorem State.setCfe_resetActive (s : State) (v : Vector Descriptor 24) : (s.setCfe v).resetActive = s.resetActive := rfl
@[simp] theorem State.setCfe_choice (s : State) (v : Vector Descriptor 24) : (s.setCfe v).choice = s.choice := rfl
@[simp] theorem State.setCfe_pending (s : State) (v : Vector Descriptor 24) : (s.setCfe v).pending = s.pending := rfl
@[simp] theorem State.setCfe_setCfe (s : State) (u v : Vector Descriptor 24) : (s.setCfe u).setCfe v = s.setCfe v := rfl
@[simp] theorem State.setCfe_self (s : State) : s.setCfe s.cfe = s := rfl

@[simp] theorem State.setCnv_cfe (s : State) (v : Converter) : (s.setCnv v).cfe = s.cfe := rfl
@[simp] theorem State.setCnv_cnv (s : State) (v : Converter) : (s.setCnv v).cnv = v := rfl
@[simp] theorem State.setCnv_seq (s : State) (v : Converter) : (s.setCnv v).seq = s.seq := rfl
@[simp] theorem State.setCnv_sch (s : State) (v : Converter) : (s.setCnv v).sch = s.sch := rfl
@[simp] theorem State.setCnv_trg (s : State) (v : Converter) : (s.setCnv v).trg = s.trg := rfl
@[simp] theorem State.setCnv_res (s : State) (v : Converter) : (s.setCnv v).res = s.res := rfl
@[simp] theorem State.setCnv_mon (s : State) (v : Converter) : (s.setCnv v).mon = s.mon := rfl
@[simp] theorem State.setCnv_trp (s : State) (v : Converter) : (s.setCnv v).trp = s.trp := rfl
@[simp] theorem State.setCnv_ses (s : State) (v : Converter) : (s.setCnv v).ses = s.ses := rfl
@[simp] theorem State.setCnv_tmb (s : State) (v : Converter) : (s.setCnv v).tmb = s.tmb := rfl
@[simp] theorem State.setCnv_host (s : State) (v : Converter) : (s.setCnv v).host = s.host := rfl
@[simp] theorem State.setCnv_resetActive (s : State) (v : Converter) : (s.setCnv v).resetActive = s.resetActive := rfl
@[simp] theorem State.setCnv_choice (s : State) (v : Converter) : (s.setCnv v).choice = s.choice := rfl
@[simp] theorem State.setCnv_pending (s : State) (v : Converter) : (s.setCnv v).pending = s.pending := rfl
@[simp] theorem State.setCnv_setCnv (s : State) (u v : Converter) : (s.setCnv u).setCnv v = s.setCnv v := rfl
@[simp] theorem State.setCnv_self (s : State) : s.setCnv s.cnv = s := rfl

@[simp] theorem State.setSeq_cfe (s : State) (v : SeqUnit) : (s.setSeq v).cfe = s.cfe := rfl
@[simp] theorem State.setSeq_cnv (s : State) (v : SeqUnit) : (s.setSeq v).cnv = s.cnv := rfl
@[simp] theorem State.setSeq_seq (s : State) (v : SeqUnit) : (s.setSeq v).seq = v := rfl
@[simp] theorem State.setSeq_sch (s : State) (v : SeqUnit) : (s.setSeq v).sch = s.sch := rfl
@[simp] theorem State.setSeq_trg (s : State) (v : SeqUnit) : (s.setSeq v).trg = s.trg := rfl
@[simp] theorem State.setSeq_res (s : State) (v : SeqUnit) : (s.setSeq v).res = s.res := rfl
@[simp] theorem State.setSeq_mon (s : State) (v : SeqUnit) : (s.setSeq v).mon = s.mon := rfl
@[simp] theorem State.setSeq_trp (s : State) (v : SeqUnit) : (s.setSeq v).trp = s.trp := rfl
@[simp] theorem State.setSeq_ses (s : State) (v : SeqUnit) : (s.setSeq v).ses = s.ses := rfl
@[simp] theorem State.setSeq_tmb (s : State) (v : SeqUnit) : (s.setSeq v).tmb = s.tmb := rfl
@[simp] theorem State.setSeq_host (s : State) (v : SeqUnit) : (s.setSeq v).host = s.host := rfl
@[simp] theorem State.setSeq_resetActive (s : State) (v : SeqUnit) : (s.setSeq v).resetActive = s.resetActive := rfl
@[simp] theorem State.setSeq_choice (s : State) (v : SeqUnit) : (s.setSeq v).choice = s.choice := rfl
@[simp] theorem State.setSeq_pending (s : State) (v : SeqUnit) : (s.setSeq v).pending = s.pending := rfl
@[simp] theorem State.setSeq_setSeq (s : State) (u v : SeqUnit) : (s.setSeq u).setSeq v = s.setSeq v := rfl
@[simp] theorem State.setSeq_self (s : State) : s.setSeq s.seq = s := rfl

@[simp] theorem State.setSch_cfe (s : State) (v : Scheduler) : (s.setSch v).cfe = s.cfe := rfl
@[simp] theorem State.setSch_cnv (s : State) (v : Scheduler) : (s.setSch v).cnv = s.cnv := rfl
@[simp] theorem State.setSch_seq (s : State) (v : Scheduler) : (s.setSch v).seq = s.seq := rfl
@[simp] theorem State.setSch_sch (s : State) (v : Scheduler) : (s.setSch v).sch = v := rfl
@[simp] theorem State.setSch_trg (s : State) (v : Scheduler) : (s.setSch v).trg = s.trg := rfl
@[simp] theorem State.setSch_res (s : State) (v : Scheduler) : (s.setSch v).res = s.res := rfl
@[simp] theorem State.setSch_mon (s : State) (v : Scheduler) : (s.setSch v).mon = s.mon := rfl
@[simp] theorem State.setSch_trp (s : State) (v : Scheduler) : (s.setSch v).trp = s.trp := rfl
@[simp] theorem State.setSch_ses (s : State) (v : Scheduler) : (s.setSch v).ses = s.ses := rfl
@[simp] theorem State.setSch_tmb (s : State) (v : Scheduler) : (s.setSch v).tmb = s.tmb := rfl
@[simp] theorem State.setSch_host (s : State) (v : Scheduler) : (s.setSch v).host = s.host := rfl
@[simp] theorem State.setSch_resetActive (s : State) (v : Scheduler) : (s.setSch v).resetActive = s.resetActive := rfl
@[simp] theorem State.setSch_choice (s : State) (v : Scheduler) : (s.setSch v).choice = s.choice := rfl
@[simp] theorem State.setSch_pending (s : State) (v : Scheduler) : (s.setSch v).pending = s.pending := rfl
@[simp] theorem State.setSch_setSch (s : State) (u v : Scheduler) : (s.setSch u).setSch v = s.setSch v := rfl
@[simp] theorem State.setSch_self (s : State) : s.setSch s.sch = s := rfl

@[simp] theorem State.setTrg_cfe (s : State) (v : TriggerUnit) : (s.setTrg v).cfe = s.cfe := rfl
@[simp] theorem State.setTrg_cnv (s : State) (v : TriggerUnit) : (s.setTrg v).cnv = s.cnv := rfl
@[simp] theorem State.setTrg_seq (s : State) (v : TriggerUnit) : (s.setTrg v).seq = s.seq := rfl
@[simp] theorem State.setTrg_sch (s : State) (v : TriggerUnit) : (s.setTrg v).sch = s.sch := rfl
@[simp] theorem State.setTrg_trg (s : State) (v : TriggerUnit) : (s.setTrg v).trg = v := rfl
@[simp] theorem State.setTrg_res (s : State) (v : TriggerUnit) : (s.setTrg v).res = s.res := rfl
@[simp] theorem State.setTrg_mon (s : State) (v : TriggerUnit) : (s.setTrg v).mon = s.mon := rfl
@[simp] theorem State.setTrg_trp (s : State) (v : TriggerUnit) : (s.setTrg v).trp = s.trp := rfl
@[simp] theorem State.setTrg_ses (s : State) (v : TriggerUnit) : (s.setTrg v).ses = s.ses := rfl
@[simp] theorem State.setTrg_tmb (s : State) (v : TriggerUnit) : (s.setTrg v).tmb = s.tmb := rfl
@[simp] theorem State.setTrg_host (s : State) (v : TriggerUnit) : (s.setTrg v).host = s.host := rfl
@[simp] theorem State.setTrg_resetActive (s : State) (v : TriggerUnit) : (s.setTrg v).resetActive = s.resetActive := rfl
@[simp] theorem State.setTrg_choice (s : State) (v : TriggerUnit) : (s.setTrg v).choice = s.choice := rfl
@[simp] theorem State.setTrg_pending (s : State) (v : TriggerUnit) : (s.setTrg v).pending = s.pending := rfl
@[simp] theorem State.setTrg_setTrg (s : State) (u v : TriggerUnit) : (s.setTrg u).setTrg v = s.setTrg v := rfl
@[simp] theorem State.setTrg_self (s : State) : s.setTrg s.trg = s := rfl

@[simp] theorem State.setRes_cfe (s : State) (v : ResultUnit) : (s.setRes v).cfe = s.cfe := rfl
@[simp] theorem State.setRes_cnv (s : State) (v : ResultUnit) : (s.setRes v).cnv = s.cnv := rfl
@[simp] theorem State.setRes_seq (s : State) (v : ResultUnit) : (s.setRes v).seq = s.seq := rfl
@[simp] theorem State.setRes_sch (s : State) (v : ResultUnit) : (s.setRes v).sch = s.sch := rfl
@[simp] theorem State.setRes_trg (s : State) (v : ResultUnit) : (s.setRes v).trg = s.trg := rfl
@[simp] theorem State.setRes_res (s : State) (v : ResultUnit) : (s.setRes v).res = v := rfl
@[simp] theorem State.setRes_mon (s : State) (v : ResultUnit) : (s.setRes v).mon = s.mon := rfl
@[simp] theorem State.setRes_trp (s : State) (v : ResultUnit) : (s.setRes v).trp = s.trp := rfl
@[simp] theorem State.setRes_ses (s : State) (v : ResultUnit) : (s.setRes v).ses = s.ses := rfl
@[simp] theorem State.setRes_tmb (s : State) (v : ResultUnit) : (s.setRes v).tmb = s.tmb := rfl
@[simp] theorem State.setRes_host (s : State) (v : ResultUnit) : (s.setRes v).host = s.host := rfl
@[simp] theorem State.setRes_resetActive (s : State) (v : ResultUnit) : (s.setRes v).resetActive = s.resetActive := rfl
@[simp] theorem State.setRes_choice (s : State) (v : ResultUnit) : (s.setRes v).choice = s.choice := rfl
@[simp] theorem State.setRes_pending (s : State) (v : ResultUnit) : (s.setRes v).pending = s.pending := rfl
@[simp] theorem State.setRes_setRes (s : State) (u v : ResultUnit) : (s.setRes u).setRes v = s.setRes v := rfl
@[simp] theorem State.setRes_self (s : State) : s.setRes s.res = s := rfl

@[simp] theorem State.setMon_cfe (s : State) (v : Vector Monitor 8) : (s.setMon v).cfe = s.cfe := rfl
@[simp] theorem State.setMon_cnv (s : State) (v : Vector Monitor 8) : (s.setMon v).cnv = s.cnv := rfl
@[simp] theorem State.setMon_seq (s : State) (v : Vector Monitor 8) : (s.setMon v).seq = s.seq := rfl
@[simp] theorem State.setMon_sch (s : State) (v : Vector Monitor 8) : (s.setMon v).sch = s.sch := rfl
@[simp] theorem State.setMon_trg (s : State) (v : Vector Monitor 8) : (s.setMon v).trg = s.trg := rfl
@[simp] theorem State.setMon_res (s : State) (v : Vector Monitor 8) : (s.setMon v).res = s.res := rfl
@[simp] theorem State.setMon_mon (s : State) (v : Vector Monitor 8) : (s.setMon v).mon = v := rfl
@[simp] theorem State.setMon_trp (s : State) (v : Vector Monitor 8) : (s.setMon v).trp = s.trp := rfl
@[simp] theorem State.setMon_ses (s : State) (v : Vector Monitor 8) : (s.setMon v).ses = s.ses := rfl
@[simp] theorem State.setMon_tmb (s : State) (v : Vector Monitor 8) : (s.setMon v).tmb = s.tmb := rfl
@[simp] theorem State.setMon_host (s : State) (v : Vector Monitor 8) : (s.setMon v).host = s.host := rfl
@[simp] theorem State.setMon_resetActive (s : State) (v : Vector Monitor 8) : (s.setMon v).resetActive = s.resetActive := rfl
@[simp] theorem State.setMon_choice (s : State) (v : Vector Monitor 8) : (s.setMon v).choice = s.choice := rfl
@[simp] theorem State.setMon_pending (s : State) (v : Vector Monitor 8) : (s.setMon v).pending = s.pending := rfl
@[simp] theorem State.setMon_setMon (s : State) (u v : Vector Monitor 8) : (s.setMon u).setMon v = s.setMon v := rfl
@[simp] theorem State.setMon_self (s : State) : s.setMon s.mon = s := rfl

@[simp] theorem State.setTrp_cfe (s : State) (v : TripLatch) : (s.setTrp v).cfe = s.cfe := rfl
@[simp] theorem State.setTrp_cnv (s : State) (v : TripLatch) : (s.setTrp v).cnv = s.cnv := rfl
@[simp] theorem State.setTrp_seq (s : State) (v : TripLatch) : (s.setTrp v).seq = s.seq := rfl
@[simp] theorem State.setTrp_sch (s : State) (v : TripLatch) : (s.setTrp v).sch = s.sch := rfl
@[simp] theorem State.setTrp_trg (s : State) (v : TripLatch) : (s.setTrp v).trg = s.trg := rfl
@[simp] theorem State.setTrp_res (s : State) (v : TripLatch) : (s.setTrp v).res = s.res := rfl
@[simp] theorem State.setTrp_mon (s : State) (v : TripLatch) : (s.setTrp v).mon = s.mon := rfl
@[simp] theorem State.setTrp_trp (s : State) (v : TripLatch) : (s.setTrp v).trp = v := rfl
@[simp] theorem State.setTrp_ses (s : State) (v : TripLatch) : (s.setTrp v).ses = s.ses := rfl
@[simp] theorem State.setTrp_tmb (s : State) (v : TripLatch) : (s.setTrp v).tmb = s.tmb := rfl
@[simp] theorem State.setTrp_host (s : State) (v : TripLatch) : (s.setTrp v).host = s.host := rfl
@[simp] theorem State.setTrp_resetActive (s : State) (v : TripLatch) : (s.setTrp v).resetActive = s.resetActive := rfl
@[simp] theorem State.setTrp_choice (s : State) (v : TripLatch) : (s.setTrp v).choice = s.choice := rfl
@[simp] theorem State.setTrp_pending (s : State) (v : TripLatch) : (s.setTrp v).pending = s.pending := rfl
@[simp] theorem State.setTrp_setTrp (s : State) (u v : TripLatch) : (s.setTrp u).setTrp v = s.setTrp v := rfl
@[simp] theorem State.setTrp_self (s : State) : s.setTrp s.trp = s := rfl

@[simp] theorem State.setSes_cfe (s : State) (v : SessionUnit) : (s.setSes v).cfe = s.cfe := rfl
@[simp] theorem State.setSes_cnv (s : State) (v : SessionUnit) : (s.setSes v).cnv = s.cnv := rfl
@[simp] theorem State.setSes_seq (s : State) (v : SessionUnit) : (s.setSes v).seq = s.seq := rfl
@[simp] theorem State.setSes_sch (s : State) (v : SessionUnit) : (s.setSes v).sch = s.sch := rfl
@[simp] theorem State.setSes_trg (s : State) (v : SessionUnit) : (s.setSes v).trg = s.trg := rfl
@[simp] theorem State.setSes_res (s : State) (v : SessionUnit) : (s.setSes v).res = s.res := rfl
@[simp] theorem State.setSes_mon (s : State) (v : SessionUnit) : (s.setSes v).mon = s.mon := rfl
@[simp] theorem State.setSes_trp (s : State) (v : SessionUnit) : (s.setSes v).trp = s.trp := rfl
@[simp] theorem State.setSes_ses (s : State) (v : SessionUnit) : (s.setSes v).ses = v := rfl
@[simp] theorem State.setSes_tmb (s : State) (v : SessionUnit) : (s.setSes v).tmb = s.tmb := rfl
@[simp] theorem State.setSes_host (s : State) (v : SessionUnit) : (s.setSes v).host = s.host := rfl
@[simp] theorem State.setSes_resetActive (s : State) (v : SessionUnit) : (s.setSes v).resetActive = s.resetActive := rfl
@[simp] theorem State.setSes_choice (s : State) (v : SessionUnit) : (s.setSes v).choice = s.choice := rfl
@[simp] theorem State.setSes_pending (s : State) (v : SessionUnit) : (s.setSes v).pending = s.pending := rfl
@[simp] theorem State.setSes_setSes (s : State) (u v : SessionUnit) : (s.setSes u).setSes v = s.setSes v := rfl
@[simp] theorem State.setSes_self (s : State) : s.setSes s.ses = s := rfl

@[simp] theorem State.setTmb_cfe (s : State) (v : Timebase) : (s.setTmb v).cfe = s.cfe := rfl
@[simp] theorem State.setTmb_cnv (s : State) (v : Timebase) : (s.setTmb v).cnv = s.cnv := rfl
@[simp] theorem State.setTmb_seq (s : State) (v : Timebase) : (s.setTmb v).seq = s.seq := rfl
@[simp] theorem State.setTmb_sch (s : State) (v : Timebase) : (s.setTmb v).sch = s.sch := rfl
@[simp] theorem State.setTmb_trg (s : State) (v : Timebase) : (s.setTmb v).trg = s.trg := rfl
@[simp] theorem State.setTmb_res (s : State) (v : Timebase) : (s.setTmb v).res = s.res := rfl
@[simp] theorem State.setTmb_mon (s : State) (v : Timebase) : (s.setTmb v).mon = s.mon := rfl
@[simp] theorem State.setTmb_trp (s : State) (v : Timebase) : (s.setTmb v).trp = s.trp := rfl
@[simp] theorem State.setTmb_ses (s : State) (v : Timebase) : (s.setTmb v).ses = s.ses := rfl
@[simp] theorem State.setTmb_tmb (s : State) (v : Timebase) : (s.setTmb v).tmb = v := rfl
@[simp] theorem State.setTmb_host (s : State) (v : Timebase) : (s.setTmb v).host = s.host := rfl
@[simp] theorem State.setTmb_resetActive (s : State) (v : Timebase) : (s.setTmb v).resetActive = s.resetActive := rfl
@[simp] theorem State.setTmb_choice (s : State) (v : Timebase) : (s.setTmb v).choice = s.choice := rfl
@[simp] theorem State.setTmb_pending (s : State) (v : Timebase) : (s.setTmb v).pending = s.pending := rfl
@[simp] theorem State.setTmb_setTmb (s : State) (u v : Timebase) : (s.setTmb u).setTmb v = s.setTmb v := rfl
@[simp] theorem State.setTmb_self (s : State) : s.setTmb s.tmb = s := rfl

@[simp] theorem State.setHost_cfe (s : State) (v : PerPort HostPort) : (s.setHost v).cfe = s.cfe := rfl
@[simp] theorem State.setHost_cnv (s : State) (v : PerPort HostPort) : (s.setHost v).cnv = s.cnv := rfl
@[simp] theorem State.setHost_seq (s : State) (v : PerPort HostPort) : (s.setHost v).seq = s.seq := rfl
@[simp] theorem State.setHost_sch (s : State) (v : PerPort HostPort) : (s.setHost v).sch = s.sch := rfl
@[simp] theorem State.setHost_trg (s : State) (v : PerPort HostPort) : (s.setHost v).trg = s.trg := rfl
@[simp] theorem State.setHost_res (s : State) (v : PerPort HostPort) : (s.setHost v).res = s.res := rfl
@[simp] theorem State.setHost_mon (s : State) (v : PerPort HostPort) : (s.setHost v).mon = s.mon := rfl
@[simp] theorem State.setHost_trp (s : State) (v : PerPort HostPort) : (s.setHost v).trp = s.trp := rfl
@[simp] theorem State.setHost_ses (s : State) (v : PerPort HostPort) : (s.setHost v).ses = s.ses := rfl
@[simp] theorem State.setHost_tmb (s : State) (v : PerPort HostPort) : (s.setHost v).tmb = s.tmb := rfl
@[simp] theorem State.setHost_host (s : State) (v : PerPort HostPort) : (s.setHost v).host = v := rfl
@[simp] theorem State.setHost_resetActive (s : State) (v : PerPort HostPort) : (s.setHost v).resetActive = s.resetActive := rfl
@[simp] theorem State.setHost_choice (s : State) (v : PerPort HostPort) : (s.setHost v).choice = s.choice := rfl
@[simp] theorem State.setHost_pending (s : State) (v : PerPort HostPort) : (s.setHost v).pending = s.pending := rfl
@[simp] theorem State.setHost_setHost (s : State) (u v : PerPort HostPort) : (s.setHost u).setHost v = s.setHost v := rfl
@[simp] theorem State.setHost_self (s : State) : s.setHost s.host = s := rfl

@[simp] theorem State.setResetActive_cfe (s : State) (v : Bool) : (s.setResetActive v).cfe = s.cfe := rfl
@[simp] theorem State.setResetActive_cnv (s : State) (v : Bool) : (s.setResetActive v).cnv = s.cnv := rfl
@[simp] theorem State.setResetActive_seq (s : State) (v : Bool) : (s.setResetActive v).seq = s.seq := rfl
@[simp] theorem State.setResetActive_sch (s : State) (v : Bool) : (s.setResetActive v).sch = s.sch := rfl
@[simp] theorem State.setResetActive_trg (s : State) (v : Bool) : (s.setResetActive v).trg = s.trg := rfl
@[simp] theorem State.setResetActive_res (s : State) (v : Bool) : (s.setResetActive v).res = s.res := rfl
@[simp] theorem State.setResetActive_mon (s : State) (v : Bool) : (s.setResetActive v).mon = s.mon := rfl
@[simp] theorem State.setResetActive_trp (s : State) (v : Bool) : (s.setResetActive v).trp = s.trp := rfl
@[simp] theorem State.setResetActive_ses (s : State) (v : Bool) : (s.setResetActive v).ses = s.ses := rfl
@[simp] theorem State.setResetActive_tmb (s : State) (v : Bool) : (s.setResetActive v).tmb = s.tmb := rfl
@[simp] theorem State.setResetActive_host (s : State) (v : Bool) : (s.setResetActive v).host = s.host := rfl
@[simp] theorem State.setResetActive_resetActive (s : State) (v : Bool) : (s.setResetActive v).resetActive = v := rfl
@[simp] theorem State.setResetActive_choice (s : State) (v : Bool) : (s.setResetActive v).choice = s.choice := rfl
@[simp] theorem State.setResetActive_pending (s : State) (v : Bool) : (s.setResetActive v).pending = s.pending := rfl
@[simp] theorem State.setResetActive_setResetActive (s : State) (u v : Bool) : (s.setResetActive u).setResetActive v = s.setResetActive v := rfl
@[simp] theorem State.setResetActive_self (s : State) : s.setResetActive s.resetActive = s := rfl

@[simp] theorem State.setChoice_cfe (s : State) (v : Nat) : (s.setChoice v).cfe = s.cfe := rfl
@[simp] theorem State.setChoice_cnv (s : State) (v : Nat) : (s.setChoice v).cnv = s.cnv := rfl
@[simp] theorem State.setChoice_seq (s : State) (v : Nat) : (s.setChoice v).seq = s.seq := rfl
@[simp] theorem State.setChoice_sch (s : State) (v : Nat) : (s.setChoice v).sch = s.sch := rfl
@[simp] theorem State.setChoice_trg (s : State) (v : Nat) : (s.setChoice v).trg = s.trg := rfl
@[simp] theorem State.setChoice_res (s : State) (v : Nat) : (s.setChoice v).res = s.res := rfl
@[simp] theorem State.setChoice_mon (s : State) (v : Nat) : (s.setChoice v).mon = s.mon := rfl
@[simp] theorem State.setChoice_trp (s : State) (v : Nat) : (s.setChoice v).trp = s.trp := rfl
@[simp] theorem State.setChoice_ses (s : State) (v : Nat) : (s.setChoice v).ses = s.ses := rfl
@[simp] theorem State.setChoice_tmb (s : State) (v : Nat) : (s.setChoice v).tmb = s.tmb := rfl
@[simp] theorem State.setChoice_host (s : State) (v : Nat) : (s.setChoice v).host = s.host := rfl
@[simp] theorem State.setChoice_resetActive (s : State) (v : Nat) : (s.setChoice v).resetActive = s.resetActive := rfl
@[simp] theorem State.setChoice_choice (s : State) (v : Nat) : (s.setChoice v).choice = v := rfl
@[simp] theorem State.setChoice_pending (s : State) (v : Nat) : (s.setChoice v).pending = s.pending := rfl
@[simp] theorem State.setChoice_setChoice (s : State) (u v : Nat) : (s.setChoice u).setChoice v = s.setChoice v := rfl
@[simp] theorem State.setChoice_self (s : State) : s.setChoice s.choice = s := rfl

@[simp] theorem State.setPending_cfe (s : State) (v : List Instr) : (s.setPending v).cfe = s.cfe := rfl
@[simp] theorem State.setPending_cnv (s : State) (v : List Instr) : (s.setPending v).cnv = s.cnv := rfl
@[simp] theorem State.setPending_seq (s : State) (v : List Instr) : (s.setPending v).seq = s.seq := rfl
@[simp] theorem State.setPending_sch (s : State) (v : List Instr) : (s.setPending v).sch = s.sch := rfl
@[simp] theorem State.setPending_trg (s : State) (v : List Instr) : (s.setPending v).trg = s.trg := rfl
@[simp] theorem State.setPending_res (s : State) (v : List Instr) : (s.setPending v).res = s.res := rfl
@[simp] theorem State.setPending_mon (s : State) (v : List Instr) : (s.setPending v).mon = s.mon := rfl
@[simp] theorem State.setPending_trp (s : State) (v : List Instr) : (s.setPending v).trp = s.trp := rfl
@[simp] theorem State.setPending_ses (s : State) (v : List Instr) : (s.setPending v).ses = s.ses := rfl
@[simp] theorem State.setPending_tmb (s : State) (v : List Instr) : (s.setPending v).tmb = s.tmb := rfl
@[simp] theorem State.setPending_host (s : State) (v : List Instr) : (s.setPending v).host = s.host := rfl
@[simp] theorem State.setPending_resetActive (s : State) (v : List Instr) : (s.setPending v).resetActive = s.resetActive := rfl
@[simp] theorem State.setPending_choice (s : State) (v : List Instr) : (s.setPending v).choice = s.choice := rfl
@[simp] theorem State.setPending_pending (s : State) (v : List Instr) : (s.setPending v).pending = v := rfl
@[simp] theorem State.setPending_setPending (s : State) (u v : List Instr) : (s.setPending u).setPending v = s.setPending v := rfl
@[simp] theorem State.setPending_self (s : State) : s.setPending s.pending = s := rfl

end Sys2Proof.Machine
end

