-- ==== Sys2Proof/Laws/Tables.lean ====
section
/-! SUPPORT. Reading back what was written in tables and in pairs kept for each port. -/

namespace Sys2Proof.Machine

@[simp] theorem otherPort_otherPort (x : Port) : otherPort (otherPort x) = x := by cases x <;> rfl

@[simp] theorem otherPort_ne (x : Port) : otherPort x ≠ x := by cases x <;> simp [otherPort]

@[simp] theorem ne_otherPort (x : Port) : x ≠ otherPort x := by cases x <;> simp [otherPort]

theorem eq_otherPort_of_ne {x y : Port} (h : y ≠ x) : y = otherPort x := by
  cases x <;> cases y <;> simp_all [otherPort]

@[simp] theorem flipLevel_flipLevel (l : Level) : flipLevel (flipLevel l) = l := by cases l <;> rfl

@[simp] theorem flipLevel_ne (l : Level) : flipLevel l ≠ l := by cases l <;> simp [flipLevel]

@[simp] theorem PerPort.get_set_same {α : Type} (p : PerPort α) (x : Port) (v : α) :
    (p.set x v).get x = v := by cases x <;> rfl

theorem PerPort.get_set_ne {α : Type} (p : PerPort α) {x y : Port} (v : α) (h : y ≠ x) :
    (p.set x v).get y = p.get y := by
  cases x <;> cases y <;> simp_all [PerPort.get, PerPort.set]

@[simp] theorem PerPort.get_set_other {α : Type} (p : PerPort α) (x : Port) (v : α) :
    (p.set x v).get (otherPort x) = p.get (otherPort x) := PerPort.get_set_ne p v (otherPort_ne x)

theorem PerPort.get_set {α : Type} (p : PerPort α) (x y : Port) (v : α) :
    (p.set x v).get y = if y = x then v else p.get y := by
  split
  · next h => rw [h]; simp
  · next h => exact PerPort.get_set_ne p v h

@[simp] theorem PerPort.set_get {α : Type} (p : PerPort α) (x : Port) : p.set x (p.get x) = p := by
  cases x <;> rfl

@[simp] theorem PerPort.set_set {α : Type} (p : PerPort α) (x : Port) (u v : α) :
    (p.set x u).set x v = p.set x v := by cases x <;> rfl

/-- Two pairs with the same values at both ports are equal. -/
theorem PerPort.ext_get {α : Type} {p q : PerPort α} (h : ∀ x, p.get x = q.get x) : p = q := by
  have ha := h .A
  have hb := h .B
  cases p; cases q
  simp only [PerPort.get] at ha hb
  rw [ha, hb]

@[simp] theorem tget_tset_same {α : Type} {n : Nat} (t : Vector α n) (i : Fin n) (v : α) :
    tget (tset t i v) i = v := by simp [tget, tset]

theorem tget_tset_ne {α : Type} {n : Nat} (t : Vector α n) {i j : Fin n} (v : α) (h : j ≠ i) :
    tget (tset t i v) j = tget t j := by
  simp only [tget, tset, Fin.getElem_fin]
  rw [Vector.getElem_set_ne]
  exact fun e => h (Fin.ext e.symm)

theorem tget_tset {α : Type} {n : Nat} (t : Vector α n) (i j : Fin n) (v : α) :
    tget (tset t i v) j = if j = i then v else tget t j := by
  split
  · next h => rw [h]; simp
  · next h => exact tget_tset_ne t v h

@[simp] theorem tget_tmap {α : Type} {n : Nat} (t : Vector α n) (f : Fin n → α → α) (i : Fin n) :
    tget (tmap t f) i = f i (tget t i) := by simp [tget, tmap]

@[simp] theorem tget_replicate {α : Type} {n : Nat} (v : α) (i : Fin n) :
    tget (Vector.replicate n v) i = v := by simp [tget]

@[simp] theorem tget_ofFn {α : Type} {n : Nat} (f : Fin n → α) (i : Fin n) :
    tget (Vector.ofFn f) i = f i := by simp [tget]

/-- Two tables with the same entries are equal. -/
theorem table_ext {α : Type} {n : Nat} {t u : Vector α n} (h : ∀ i, tget t i = tget u i) : t = u := by
  apply Vector.ext
  intro i hi
  exact h ⟨i, hi⟩

@[simp] theorem tset_tget {α : Type} {n : Nat} (t : Vector α n) (i : Fin n) :
    tset t i (tget t i) = t := by
  apply table_ext
  intro j
  rw [tget_tset]
  split
  · next h => rw [h]
  · rfl

@[simp] theorem mem_allSeqs (id : SeqId) : id ∈ allSeqs := by revert id; decide

@[simp] theorem mem_allEights (i : Fin 8) : i ∈ allEights := by revert i; decide

@[simp] theorem mem_allFours (n : Fin 4) : n ∈ allFours := by revert n; decide

end Sys2Proof.Machine
end

