-- ==== Sys2Proof/Laws/Judging.lean ====
section
/-! SUPPORT. What the end of a frame leaves, what the blocks read after it, and how a frame that a port takes is judged. -/

namespace Sys2Proof.Machine

@[simp] theorem endFrame_cfe (x : Port) (s : State) : (endFrame x s).cfe = s.cfe := rfl
@[simp] theorem endFrame_cnv (x : Port) (s : State) : (endFrame x s).cnv = s.cnv := rfl
@[simp] theorem endFrame_seq (x : Port) (s : State) : (endFrame x s).seq = s.seq := rfl
@[simp] theorem endFrame_sch (x : Port) (s : State) : (endFrame x s).sch = s.sch := rfl
@[simp] theorem endFrame_trg (x : Port) (s : State) : (endFrame x s).trg = s.trg := rfl
@[simp] theorem endFrame_res (x : Port) (s : State) : (endFrame x s).res = s.res := rfl
@[simp] theorem endFrame_mon (x : Port) (s : State) : (endFrame x s).mon = s.mon := rfl
@[simp] theorem endFrame_trp (x : Port) (s : State) : (endFrame x s).trp = s.trp := rfl
@[simp] theorem endFrame_ses (x : Port) (s : State) : (endFrame x s).ses = s.ses := rfl
@[simp] theorem endFrame_tmb (x : Port) (s : State) : (endFrame x s).tmb = s.tmb := rfl
@[simp] theorem endFrame_resetActive (x : Port) (s : State) : (endFrame x s).resetActive = s.resetActive := rfl
@[simp] theorem endFrame_choice (x : Port) (s : State) : (endFrame x s).choice = s.choice := rfl
@[simp] theorem endFrame_pending (x : Port) (s : State) : (endFrame x s).pending = s.pending := rfl

@[simp] theorem fixResponse_cfe (x : Port) (r : Response) (s : State) :
    (fixResponse x r s).cfe = s.cfe := rfl
@[simp] theorem fixResponse_cnv (x : Port) (r : Response) (s : State) :
    (fixResponse x r s).cnv = s.cnv := rfl
@[simp] theorem fixResponse_seq (x : Port) (r : Response) (s : State) :
    (fixResponse x r s).seq = s.seq := rfl
@[simp] theorem fixResponse_sch (x : Port) (r : Response) (s : State) :
    (fixResponse x r s).sch = s.sch := rfl
@[simp] theorem fixResponse_trg (x : Port) (r : Response) (s : State) :
    (fixResponse x r s).trg = s.trg := rfl
@[simp] theorem fixResponse_res (x : Port) (r : Response) (s : State) :
    (fixResponse x r s).res = s.res := rfl
@[simp] theorem fixResponse_mon (x : Port) (r : Response) (s : State) :
    (fixResponse x r s).mon = s.mon := rfl
@[simp] theorem fixResponse_trp (x : Port) (r : Response) (s : State) :
    (fixResponse x r s).trp = s.trp := rfl
@[simp] theorem fixResponse_ses (x : Port) (r : Response) (s : State) :
    (fixResponse x r s).ses = s.ses := rfl
@[simp] theorem fixResponse_tmb (x : Port) (r : Response) (s : State) :
    (fixResponse x r s).tmb = s.tmb := rfl
@[simp] theorem fixResponse_resetActive (x : Port) (r : Response) (s : State) :
    (fixResponse x r s).resetActive = s.resetActive := rfl
@[simp] theorem fixResponse_choice (x : Port) (r : Response) (s : State) :
    (fixResponse x r s).choice = s.choice := rfl
@[simp] theorem fixResponse_pending (x : Port) (r : Response) (s : State) :
    (fixResponse x r s).pending = s.pending := rfl

@[simp] theorem raiseFlag_cfe (x : Port) (f : Flag) (s : State) : (raiseFlag x f s).cfe = s.cfe := rfl
@[simp] theorem raiseFlag_cnv (x : Port) (f : Flag) (s : State) : (raiseFlag x f s).cnv = s.cnv := rfl
@[simp] theorem raiseFlag_seq (x : Port) (f : Flag) (s : State) : (raiseFlag x f s).seq = s.seq := rfl
@[simp] theorem raiseFlag_sch (x : Port) (f : Flag) (s : State) : (raiseFlag x f s).sch = s.sch := rfl
@[simp] theorem raiseFlag_trg (x : Port) (f : Flag) (s : State) : (raiseFlag x f s).trg = s.trg := rfl
@[simp] theorem raiseFlag_res (x : Port) (f : Flag) (s : State) : (raiseFlag x f s).res = s.res := rfl
@[simp] theorem raiseFlag_mon (x : Port) (f : Flag) (s : State) : (raiseFlag x f s).mon = s.mon := rfl
@[simp] theorem raiseFlag_trp (x : Port) (f : Flag) (s : State) : (raiseFlag x f s).trp = s.trp := rfl
@[simp] theorem raiseFlag_ses (x : Port) (f : Flag) (s : State) : (raiseFlag x f s).ses = s.ses := rfl
@[simp] theorem raiseFlag_tmb (x : Port) (f : Flag) (s : State) : (raiseFlag x f s).tmb = s.tmb := rfl
@[simp] theorem raiseFlag_resetActive (x : Port) (f : Flag) (s : State) : (raiseFlag x f s).resetActive = s.resetActive := rfl
@[simp] theorem raiseFlag_choice (x : Port) (f : Flag) (s : State) : (raiseFlag x f s).choice = s.choice := rfl
@[simp] theorem raiseFlag_pending (x : Port) (f : Flag) (s : State) : (raiseFlag x f s).pending = s.pending := rfl

@[simp] theorem sequence_endFrame (id : SeqId) (x : Port) (s : State) :
    sequence id (endFrame x s) = sequence id s := rfl
@[simp] theorem monitor_endFrame (i : MonId) (x : Port) (s : State) :
    monitor i (endFrame x s) = monitor i s := rfl
@[simp] theorem session_endFrame (y : Port) (x : Port) (s : State) :
    session y (endFrame x s) = session y s := rfl
@[simp] theorem sessionOpen_endFrame (y : Port) (x : Port) (s : State) :
    sessionOpen y (endFrame x s) = sessionOpen y s := rfl
@[simp] theorem inFlight_endFrame (x : Port) (s : State) :
  inFlight (endFrame x s) = inFlight s := rfl
@[simp] theorem resultQueue_endFrame (y : Port) (x : Port) (s : State) :
    resultQueue y (endFrame x s) = resultQueue y s := rfl
@[simp] theorem queueCount_endFrame (y : Port) (x : Port) (s : State) :
    queueCount y (endFrame x s) = queueCount y s := rfl
@[simp] theorem descriptor_endFrame (c : Channel) (x : Port) (s : State) :
    descriptor c (endFrame x s) = descriptor c s := rfl
@[simp] theorem absorbedExt_endFrame (c : ExtChannel) (x : Port) (s : State) :
    absorbedExt c (endFrame x s) = absorbedExt c s := rfl
@[simp] theorem absorbed_endFrame (c : Channel) (x : Port) (s : State) :
    absorbed c (endFrame x s) = absorbed c s := rfl
@[simp] theorem foreignTo_endFrame (y : Port) (c : Channel) (x : Port) (s : State) :
    foreignTo y c (endFrame x s) = foreignTo y c s := rfl
@[simp] theorem usedBySequences_endFrame (y : Port) (c : Channel) (x : Port) (s : State) :
    usedBySequences y c (endFrame x s) = usedBySequences y c s := rfl
@[simp] theorem usedByMonitors_endFrame (y : Port) (c : Channel) (x : Port) (s : State) :
    usedByMonitors y c (endFrame x s) = usedByMonitors y c s := rfl
@[simp] theorem usedByConvertNow_endFrame (c : Channel) (x : Port) (s : State) :
    usedByConvertNow c (endFrame x s) = usedByConvertNow c s := rfl
@[simp] theorem claimOwner_endFrame (r : Resource) (x : Port) (s : State) :
    claimOwner r (endFrame x s) = claimOwner r s := rfl
@[simp] theorem promptFull_endFrame (y : Port) (x : Port) (s : State) :
    promptFull y (endFrame x s) = promptFull y s := rfl
@[simp] theorem sequencesHeld_endFrame (y : Port) (x : Port) (s : State) :
    sequencesHeld y (endFrame x s) = sequencesHeld y s := rfl
@[simp] theorem lowestFree_endFrame (x : Port) (s : State) :
  lowestFree (endFrame x s) = lowestFree s := rfl
@[simp] theorem noRoom_endFrame (y : Port) (n : Nat) (x : Port) (s : State) :
    noRoom y n (endFrame x s) = noRoom y n s := rfl
@[simp] theorem anyForeign_endFrame (y : Port) (l : List SeqStep) (x : Port) (s : State) :
    anyForeign y l (endFrame x s) = anyForeign y l s := rfl
@[simp] theorem anyAbsorbed_endFrame (l : List SeqStep) (x : Port) (s : State) :
    anyAbsorbed l (endFrame x s) = anyAbsorbed l s := rfl
@[simp] theorem removableSet_endFrame (y : Port) (x : Port) (s : State) :
    removableSet y (endFrame x s) = removableSet y s := rfl
@[simp] theorem isAsked_endFrame (y : Port) (x : Port) (s : State) :
    isAsked y (endFrame x s) = isAsked y s := rfl

@[simp] theorem hostPort_setHostPort_same (x : Port) (p : HostPort) (s : State) :
    hostPort x (setHostPort x p s) = p := PerPort.get_set_same ..

@[simp] theorem hostPort_setHostPort_other (x : Port) (p : HostPort) (s : State) :
    hostPort (otherPort x) (setHostPort x p s) = hostPort (otherPort x) s := PerPort.get_set_other ..

theorem hostPort_setHostPort (x y : Port) (p : HostPort) (s : State) :
    hostPort y (setHostPort x p s) = if y = x then p else hostPort y s := PerPort.get_set ..

/-- Replacing a port twice is replacing it once. -/
@[simp] theorem setHostPort_setHostPort (x : Port) (p q : HostPort) (s : State) :
    setHostPort x q (setHostPort x p s) = setHostPort x q s := by
  simp [setHostPort]

/-- A port that takes a frame judges it in the state in which the frame has ended. -/
theorem atFrameEnd_of_takesFrame {x : Port} {s : State} (f : State → State)
    (h : Safety.takesFrame x s = true) : atFrameEnd x f s = f (endFrame x s) := by
  unfold Safety.takesFrame at h
  unfold atFrameEnd
  cases hr : s.resetActive <;> cases hc : (hostPort x s).receiver <;> simp_all

/-- A command in a frame that the port takes. -/
theorem takeCommand_of_takesFrame {x : Port} {s : State} (c : HostCommand) (tag : Tag)
    (body : State → Reply) (h : Safety.takesFrame x s = true) :
    takeCommand x c tag body s
      = settleReply x c tag (endFrame x s) (judge x c body (endFrame x s)) :=
  atFrameEnd_of_takesFrame _ h

theorem takesFrame_of_admitted {x : Port} {s : State} (h : Safety.admitted x s = true) :
    Safety.takesFrame x s = true := by
  simp [Safety.admitted] at h; exact h.1.1

theorem started_of_admitted {x : Port} {s : State} (h : Safety.admitted x s = true) :
    Safety.started s = true := by
  simp [Safety.admitted] at h; exact h.1.2

theorem sessionOpen_of_admitted {x : Port} {s : State} (h : Safety.admitted x s = true) :
    sessionOpen x s = true := by
  simp [Safety.admitted] at h; exact h.2

/-- An OPEN session holds a lease. -/
theorem session_of_sessionOpen {x : Port} {s : State} (h : sessionOpen x s = true) :
    ∃ l, session x s = .opened l := by
  unfold sessionOpen at h
  cases hs : session x s <;> simp_all

/-- The model's session check is the table of R133. -/
theorem sessionAdmits_eq (v : Session) (c : HostCommand) :
    sessionAdmits v c = Safety.passesSession v c := by
  cases v <;> cases c <;> rfl

/-- A command that passes the start-state and session checks is judged by its own checks. -/
theorem takeCommand_of_passes {x : Port} {s : State} (c : HostCommand) (tag : Tag)
    (body : State → Reply) (h : Safety.takesFrame x s = true) (hs : Safety.started s = true)
    (hp : Safety.passesSession (session x s) c = true) :
    takeCommand x c tag body s
      = settleReply x c tag (endFrame x s) (body (endFrame x s)) := by
  rw [takeCommand_of_takesFrame c tag body h]
  unfold Safety.started at hs
  simp [judge, startAdmits, hs, sessionAdmits_eq, hp]

/-- A command in an OPEN session past STARTING is judged by its own checks. -/
theorem takeCommand_of_admitted {x : Port} {s : State} (c : HostCommand) (tag : Tag)
    (body : State → Reply) (h : Safety.admitted x s = true) :
    takeCommand x c tag body s
      = settleReply x c tag (endFrame x s) (body (endFrame x s)) := by
  obtain ⟨l, hl⟩ := session_of_sessionOpen (sessionOpen_of_admitted h)
  exact takeCommand_of_passes c tag body (takesFrame_of_admitted h) (started_of_admitted h)
    (by rw [hl]; rfl)

/-- A command that the session state does not admit is refused with NO_SESSION. -/
theorem takeCommand_noSession {x : Port} {s : State} (c : HostCommand) (tag : Tag)
    (body : State → Reply) (h : Safety.takesFrame x s = true) (hs : Safety.started s = true)
    (hp : Safety.passesSession (session x s) c = false) :
    takeCommand x c tag body s = Safety.refused x .noSession tag s := by
  rw [takeCommand_of_takesFrame c tag body h]
  unfold Safety.started at hs
  simp [judge, startAdmits, hs, sessionAdmits_eq, hp, settleReply, Safety.refused]

/-- A command that is not taken in STARTING is refused with NOT_READY there. -/
theorem takeCommand_notReady {x : Port} {s : State} (c : HostCommand) (tag : Tag)
    (body : State → Reply) (h : Safety.takesFrame x s = true) (hs : s.cnv.state = .starting)
    (hp : takenInStarting c = false) :
    takeCommand x c tag body s = Safety.refused x .notReady tag s := by
  rw [takeCommand_of_takesFrame c tag body h]
  simp [judge, startAdmits, hs, hp, settleReply, Safety.refused]

/-- Without an OPEN session a command outside the CLOSED and LAPSED lists is refused. -/
theorem passesSession_of_not_open {x : Port} {s : State} {c : HostCommand}
    (h : sessionOpen x s = false) (hc : takenInClosed c = false) (hr : c ≠ .readResults)
    (hf : c ≠ .flush) : Safety.passesSession (session x s) c = false := by
  unfold sessionOpen at h
  cases hs : session x s <;> simp_all <;> cases c <;> simp_all [takenInClosed, Safety.passesSession]

end Sys2Proof.Machine
end

