-- ==== Sys2Proof/Laws/Touches.lean ====
section
/-! SUPPORT. Which fields of State each shared operation can write: every operation equals setters of those fields alone. -/

namespace Sys2Proof.Machine

theorem State.eq_set_host {s t : State} (h : t = s.setHost t.host) :
    ∃ v0, t = s.setHost v0 := ⟨_, h⟩

theorem State.eq_set_ses {s t : State} (h : t = s.setSes t.ses) :
    ∃ v0, t = s.setSes v0 := ⟨_, h⟩

theorem State.eq_set_res {s t : State} (h : t = s.setRes t.res) :
    ∃ v0, t = s.setRes v0 := ⟨_, h⟩

theorem State.eq_set_res_host {s t : State} (h : t = (s.setRes t.res).setHost t.host) :
    ∃ v0 v1, t = (s.setRes v0).setHost v1 := ⟨_, _, h⟩

theorem State.eq_set_cnv {s t : State} (h : t = s.setCnv t.cnv) :
    ∃ v0, t = s.setCnv v0 := ⟨_, h⟩

theorem State.eq_set_seq {s t : State} (h : t = s.setSeq t.seq) :
    ∃ v0, t = s.setSeq v0 := ⟨_, h⟩

theorem State.eq_set_mon {s t : State} (h : t = s.setMon t.mon) :
    ∃ v0, t = s.setMon v0 := ⟨_, h⟩

theorem State.eq_set_res_trp_host {s t : State} (h : t = ((s.setRes t.res).setTrp t.trp).setHost t.host) :
    ∃ v0 v1 v2, t = ((s.setRes v0).setTrp v1).setHost v2 := ⟨_, _, _, h⟩

theorem State.eq_set_res_mon_trp_host {s t : State} (h : t = (((s.setRes t.res).setMon t.mon).setTrp t.trp).setHost t.host) :
    ∃ v0 v1 v2 v3, t = (((s.setRes v0).setMon v1).setTrp v2).setHost v3 := ⟨_, _, _, _, h⟩

theorem State.eq_set_trg {s t : State} (h : t = s.setTrg t.trg) :
    ∃ v0, t = s.setTrg v0 := ⟨_, h⟩

theorem State.eq_set_cnv_sch {s t : State} (h : t = (s.setCnv t.cnv).setSch t.sch) :
    ∃ v0 v1, t = (s.setCnv v0).setSch v1 := ⟨_, _, h⟩

theorem State.eq_set_cnv_seq_sch {s t : State} (h : t = ((s.setCnv t.cnv).setSeq t.seq).setSch t.sch) :
    ∃ v0 v1 v2, t = ((s.setCnv v0).setSeq v1).setSch v2 := ⟨_, _, _, h⟩

theorem State.eq_set_sch {s t : State} (h : t = s.setSch t.sch) :
    ∃ v0, t = s.setSch v0 := ⟨_, h⟩

theorem State.eq_set_sch_host {s t : State} (h : t = (s.setSch t.sch).setHost t.host) :
    ∃ v0 v1, t = (s.setSch v0).setHost v1 := ⟨_, _, h⟩

theorem State.eq_set_seq_host {s t : State} (h : t = (s.setSeq t.seq).setHost t.host) :
    ∃ v0 v1, t = (s.setSeq v0).setHost v1 := ⟨_, _, h⟩

theorem State.eq_set_cfe_cnv_trg_res_mon {s t : State} (h : t = ((((s.setCfe t.cfe).setCnv t.cnv).setTrg t.trg).setRes t.res).setMon t.mon) :
    ∃ v0 v1 v2 v3 v4, t = ((((s.setCfe v0).setCnv v1).setTrg v2).setRes v3).setMon v4 := ⟨_, _, _, _, _, h⟩

theorem State.eq_set_cfe_trg_mon {s t : State} (h : t = ((s.setCfe t.cfe).setTrg t.trg).setMon t.mon) :
    ∃ v0 v1 v2, t = ((s.setCfe v0).setTrg v1).setMon v2 := ⟨_, _, _, h⟩

theorem State.eq_set_seq_trg {s t : State} (h : t = (s.setSeq t.seq).setTrg t.trg) :
    ∃ v0 v1, t = (s.setSeq v0).setTrg v1 := ⟨_, _, h⟩

theorem State.eq_set_tmb {s t : State} (h : t = s.setTmb t.tmb) :
    ∃ v0, t = s.setTmb v0 := ⟨_, h⟩

theorem setHostPort_touches (x : Port) (p : HostPort) (s : State) :
    ∃ v0, setHostPort x p s = s.setHost v0 := State.eq_set_host rfl

theorem setFlagsMask_touches (x : Port) (f m : FlagSet) (s : State) :
    ∃ v0, setFlagsMask x f m s = s.setHost v0 := State.eq_set_host rfl

theorem raiseFlag_touches (x : Port) (f : Flag) (s : State) :
    ∃ v0, raiseFlag x f s = s.setHost v0 := State.eq_set_host rfl

theorem fixResponse_touches (x : Port) (r : Response) (s : State) :
    ∃ v0, fixResponse x r s = s.setHost v0 := State.eq_set_host rfl

theorem endFrame_touches (x : Port) (s : State) :
    ∃ v0, endFrame x s = s.setHost v0 := State.eq_set_host rfl

theorem setSession_touches (x : Port) (v : Session) (s : State) :
    ∃ v0, setSession x v s = s.setSes v0 := State.eq_set_ses rfl

theorem renewLease_touches (x : Port) (s : State) :
    ∃ v0, renewLease x s = s.setSes v0 := by
  unfold renewLease
  try dsimp only
  repeat' split
  all_goals exact State.eq_set_ses rfl

theorem renewAfter_touches (x : Port) (c : HostCommand) (s : State) :
    ∃ v0, renewAfter x c s = s.setSes v0 := by
  unfold renewAfter
  split
  · split
    · exact renewLease_touches x s
    · exact State.eq_set_ses rfl
  · exact State.eq_set_ses rfl
  · exact State.eq_set_ses rfl

theorem setQueue_touches (x : Port) (q : ResultQueue) (s : State) :
    ∃ v0, setQueue x q s = s.setRes v0 := State.eq_set_res rfl

theorem appendRecord_touches (x : Port) (mk : Nat → Record) (s : State) :
    ∃ v0 v1, appendRecord x mk s = (s.setRes v0).setHost v1 := by
  unfold appendRecord
  try dsimp only
  repeat' split
  all_goals exact State.eq_set_res_host rfl

theorem appendNotice_touches (x : Port) (b : NoticeBody) (t : Time) (s : State) :
    ∃ v0 v1, appendNotice x b t s = (s.setRes v0).setHost v1 := appendRecord_touches x _ s

theorem updateSnapshot_touches (c : Channel) (v : SnapshotValue) (s : State) :
    ∃ v0, updateSnapshot c v s = s.setRes v0 := State.eq_set_res rfl

theorem invalidateSnapshot_touches (c : Channel) (s : State) :
    ∃ v0, invalidateSnapshot c s = s.setRes v0 := State.eq_set_res rfl

theorem markConfigChanged_touches (p : Channel → Bool) (s : State) :
    ∃ v0, markConfigChanged p s = s.setCnv v0 := State.eq_set_cnv rfl

theorem setSequence_touches (id : SeqId) (q : Option Sequence) (s : State) :
    ∃ v0, setSequence id q s = s.setSeq v0 := State.eq_set_seq rfl

theorem updateSequence_touches (id : SeqId) (f : Sequence → Sequence) (s : State) :
    ∃ v0, updateSequence id f s = s.setSeq v0 := State.eq_set_seq rfl

theorem setMonitorAt_touches (i : MonId) (m : Monitor) (s : State) :
    ∃ v0, setMonitorAt i m s = s.setMon v0 := State.eq_set_mon rfl

theorem tellOpen_touches (x : Port) (b : NoticeBody) (f : Flag) (s : State) :
    ∃ v0 v1, whenOpen x (fun s => raiseFlag x f (appendNotice x b s.tmb.counter s)) s
      = (s.setRes v0).setHost v1 := by
  unfold whenOpen
  split
  · obtain ⟨q, h, e⟩ := appendNotice_touches x b s.tmb.counter s
    dsimp only
    rw [e]
    exact ⟨q, _, rfl⟩
  · exact State.eq_set_res_host rfl

theorem noticeOpenPorts_touches (b : NoticeBody) (f : Flag) (s : State) :
    ∃ v0 v1, noticeOpenPorts b f s = (s.setRes v0).setHost v1 := by
  unfold noticeOpenPorts
  dsimp only
  obtain ⟨q, h, e⟩ := tellOpen_touches .A b f s
  rw [e]
  obtain ⟨q', h', e'⟩ := tellOpen_touches .B b f ((s.setRes q).setHost h)
  exact ⟨q', h', e'⟩

theorem addCauses_touches (c : CauseSet) (s : State) :
    ∃ v0 v1 v2, addCauses c s = ((s.setRes v0).setTrp v1).setHost v2 := by
  unfold addCauses
  split
  · obtain ⟨a, b, h⟩ := noticeOpenPorts_touches (.trip c) .trip
      (s.setTrp { s.trp with state := .tripped, causes := c, line := stopLevel s.trp.polarity })
    exact ⟨a, _, b, h⟩
  · exact State.eq_set_res_trp_host rfl

theorem removeCauses_touches (c : CauseSet) (s : State) :
    ∃ v0 v1 v2, removeCauses c s = ((s.setRes v0).setTrp v1).setHost v2 := by
  unfold removeCauses
  split
  · exact State.eq_set_res_trp_host rfl
  · split
    · obtain ⟨a, b, h⟩ := noticeOpenPorts_touches .tripCleared .rearmed
        (s.setTrp { s.trp with state := .armed, causes := 0, line := runLevel s.trp.polarity })
      exact ⟨a, _, b, h⟩
    · exact State.eq_set_res_trp_host rfl

theorem raiseMonitorFlag_touches (i : MonId) (s : State) :
    ∃ v0, (fun s => raiseMonitorFlag s i) s = s.setHost v0 := by
  dsimp only
  unfold raiseMonitorFlag
  split <;> exact State.eq_set_host rfl

theorem foldl_raiseMonitorFlag_touches (l : List MonId) (s : State) :
    ∃ v0, l.foldl raiseMonitorFlag s = s.setHost v0 := by
  induction l generalizing s with
  | nil => exact ⟨_, rfl⟩
  | cons i l ih =>
    obtain ⟨a, ha⟩ := raiseMonitorFlag_touches i s
    obtain ⟨b, hb⟩ := ih (raiseMonitorFlag s i)
    refine ⟨b, ?_⟩
    rw [List.foldl_cons, hb]
    dsimp only at ha
    rw [ha]
    rfl

theorem evaluateMonitors_touches (c : Channel) (v : Word) (s : State) :
    ∃ v0 v1 v2 v3, evaluateMonitors c v s = (((s.setRes v0).setMon v1).setTrp v2).setHost v3 := by
  unfold evaluateMonitors
  dsimp only
  generalize tmap s.mon _ = m
  generalize List.filter _ allEights = l
  obtain ⟨h, hh⟩ := foldl_raiseMonitorFlag_touches l (s.setMon m)
  rw [hh]
  split
  · exact State.eq_set_res_mon_trp_host rfl
  · obtain ⟨a, b, d, e⟩ := addCauses_touches (tripCausesOf ((s.setMon m).setHost h) l)
      ((s.setMon m).setHost h)
    exact ⟨a, _, b, d, e⟩

theorem setBound_touches (n : SourceId) (id : Option SeqId) (s : State) :
    ∃ v0, setBound n id s = s.setTrg v0 := State.eq_set_trg rfl

theorem unbindKind_touches (k : SeqKind) (s : State) :
    ∃ v0, unbindKind k s = s.setTrg v0 := by
  unfold unbindKind
  try dsimp only
  repeat' split
  all_goals exact State.eq_set_trg rfl

theorem converterStart_touches (p : Port) (r : Option StepRef) (c : Channel) (n : SampleCount) (s : State) :
    ∃ v0, converterStart p r c n s = s.setCnv v0 := by
  unfold converterStart
  try dsimp only
  repeat' split
  all_goals exact State.eq_set_cnv rfl

theorem converterIdle_touches  (s : State) :
    ∃ v0, converterIdle s = s.setCnv v0 := State.eq_set_cnv rfl

theorem startMeasurement_touches (k : WorkClass) (p : Port) (i : WorkItem) (r : Option StepRef) (c : Channel) (n : SampleCount) (b : Bool) (s : State) :
    ∃ v0 v1, startMeasurement k p i r c n b s = (s.setCnv v0).setSch v1 := by
  unfold startMeasurement
  obtain ⟨a, h⟩ := converterStart_touches p r c n
    (s.setSch { s.sch with view := .busy ⟨k, p, i, b, false⟩ })
  exact ⟨a, _, h⟩

theorem startSequenceStep_touches (k : WorkClass) (id : SeqId) (s : State) :
    ∃ v0 v1, startSequenceStep k id s = (s.setCnv v0).setSch v1 := by
  unfold startSequenceStep
  split
  · exact State.eq_set_cnv_sch rfl
  · split
    · exact State.eq_set_cnv_sch rfl
    · exact startMeasurement_touches ..

theorem startPassOf_touches (id : SeqId) (s : State) :
    ∃ v0, startPassOf id s = s.setSeq v0 := State.eq_set_seq rfl

theorem startPromptWork_touches (p : PromptEntry) (s : State) :
    ∃ v0 v1, startPromptWork p s = (s.setCnv v0).setSch v1 := by
  unfold startPromptWork
  split
  · exact startSequenceStep_touches ..
  · exact startMeasurement_touches ..

theorem startPromptPass_touches (p : PromptEntry) (s : State) :
    ∃ v0, startPromptPass p s = s.setSeq v0 := by
  unfold startPromptPass
  try dsimp only
  repeat' split
  all_goals exact State.eq_set_seq rfl

theorem serveBackground_touches (p : Port) (id : SeqId) (s : State) :
    ∃ v0 v1, serveBackground p id s = (s.setCnv v0).setSch v1 := by
  unfold serveBackground
  obtain ⟨a, b, h⟩ := startSequenceStep_touches .background id (s.setSch
    { s.sch with lastServed := s.sch.lastServed.set p id, nextPort := otherPort p })
  exact ⟨a, b, h⟩

theorem rotate_touches  (s : State) :
    ∃ v0 v1, rotate s = (s.setCnv v0).setSch v1 := by
  unfold rotate
  split
  · exact serveBackground_touches ..
  · split
    · exact serveBackground_touches ..
    · exact State.eq_set_cnv_sch rfl

theorem dispatchUrgentHead_touches (e : UrgentEntry) (rest : List UrgentEntry) (s : State) :
    ∃ v0 v1 v2, dispatchUrgentHead e rest s = ((s.setCnv v0).setSeq v1).setSch v2 := by
  unfold dispatchUrgentHead
  split
  · exact State.eq_set_cnv_seq_sch rfl
  · next q hq =>
    obtain ⟨c, h⟩ := startPassOf_touches e.seq (s.setSch { s.sch with
      urgent := rest
      activeUrgent := some ⟨e.seq, q.owner, e.arrival, e.deadline, .undecided⟩ })
    rw [h]
    obtain ⟨a, b, h⟩ := startSequenceStep_touches .urgent e.seq ((s.setSch { s.sch with
      urgent := rest
      activeUrgent := some ⟨e.seq, q.owner, e.arrival, e.deadline, .undecided⟩ }).setSeq c)
    exact ⟨a, c, b, h⟩

theorem dispatchPromptHead_touches (e : PromptEntry) (rest : List PromptEntry) (s : State) :
    ∃ v0 v1 v2, dispatchPromptHead e rest s = ((s.setCnv v0).setSeq v1).setSch v2 := by
  unfold dispatchPromptHead
  obtain ⟨c, h⟩ := startPromptPass_touches e
    (s.setSch { s.sch with prompt := rest, activePrompt := some e })
  rw [h]
  obtain ⟨a, b, h⟩ := startPromptWork_touches e
    ((s.setSch { s.sch with prompt := rest, activePrompt := some e }).setSeq c)
  exact ⟨a, c, b, h⟩

theorem dispatch_touches  (s : State) :
    ∃ v0 v1 v2, dispatch s = ((s.setCnv v0).setSeq v1).setSch v2 := by
  unfold dispatch
  split
  · obtain ⟨a, b, h⟩ := startSequenceStep_touches .urgent _ s
    exact ⟨a, s.seq, b, h⟩
  · split
    · exact dispatchUrgentHead_touches ..
    · split
      · obtain ⟨a, b, h⟩ := startPromptWork_touches _ s
        exact ⟨a, s.seq, b, h⟩
      · split
        · exact dispatchPromptHead_touches ..
        · obtain ⟨a, b, h⟩ := rotate_touches s
          exact ⟨a, s.seq, b, h⟩

theorem dispatchIfFree_touches  (s : State) :
    ∃ v0 v1 v2, dispatchIfFree s = ((s.setCnv v0).setSeq v1).setSch v2 := by
  unfold dispatchIfFree
  split
  · exact dispatch_touches s
  · exact State.eq_set_cnv_seq_sch rfl

theorem releaseConverter_touches  (s : State) :
    ∃ v0 v1 v2, releaseConverter s = ((s.setCnv v0).setSeq v1).setSch v2 := by
  obtain ⟨a, b, c, h⟩ := dispatch_touches (s.setSch { s.sch with view := .free })
  exact ⟨a, b, c, h⟩

theorem cutReport_touches (m : Measurement) (s : State) :
    ∃ v0 v1 v2, cutReport m s = ((s.setCnv v0).setSeq v1).setSch v2 := by
  unfold cutReport
  split
  · obtain ⟨a, b, c, h⟩ := releaseConverter_touches (updateSequence _ _ s)
    exact ⟨a, b, c, h⟩
  · exact releaseConverter_touches s

theorem converterCut_touches  (s : State) :
    ∃ v0 v1 v2, converterCut s = ((s.setCnv v0).setSeq v1).setSch v2 := by
  unfold converterCut
  split
  · next m _ _ =>
    obtain ⟨a, b, c, h⟩ := cutReport_touches m (converterIdle s)
    exact ⟨a, b, c, h⟩
  all_goals exact State.eq_set_cnv_seq_sch rfl

theorem considerUrgent_touches  (s : State) :
    ∃ v0 v1 v2, considerUrgent s = ((s.setCnv v0).setSeq v1).setSch v2 := by
  unfold considerUrgent
  split
  · exact dispatch_touches s
  · next r _ =>
    split
    · obtain ⟨a, b, c, h⟩ := converterCut_touches
        (s.setSch { s.sch with view := .busy { r with cutOrdered := true } })
      exact ⟨a, b, c, h⟩
    · exact State.eq_set_cnv_seq_sch rfl
  · exact State.eq_set_cnv_seq_sch rfl

theorem urgentRequest_touches (id : SeqId) (bud : Word) (t : Time) (s : State) :
    ∃ v0 v1 v2, urgentRequest id bud t s = ((s.setCnv v0).setSeq v1).setSch v2 := by
  unfold urgentRequest
  dsimp only
  generalize (if bud = 0 then none else some (t + bud.setWidth 32)) = d
  obtain ⟨a, b, c, h⟩ := considerUrgent_touches
    (s.setSch { s.sch with urgent := s.sch.urgent ++ [⟨id, t, d⟩] })
  exact ⟨a, b, c, h⟩

theorem promptRequest_touches (e : PromptEntry) (s : State) :
    ∃ v0 v1 v2, promptRequest e s = ((s.setCnv v0).setSeq v1).setSch v2 := by
  obtain ⟨a, b, c, h⟩ := dispatchIfFree_touches
    (s.setSch { s.sch with prompt := s.sch.prompt ++ [e] })
  exact ⟨a, b, c, h⟩

theorem removeRequests_touches (id : SeqId) (s : State) :
    ∃ v0, removeRequests id s = s.setSch v0 := State.eq_set_sch rfl

theorem clearPasses_touches (id : SeqId) (s : State) :
    ∃ v0, clearPasses id s = s.setSch v0 := State.eq_set_sch rfl

theorem abandonWhere_touches (p : Measurement → Bool) (s : State) :
    ∃ v0 v1 v2, abandonWhere p s = ((s.setCnv v0).setSeq v1).setSch v2 := by
  unfold abandonWhere
  split
  · split
    · obtain ⟨a, b, c, h⟩ := releaseConverter_touches (converterIdle s)
      exact ⟨a, b, c, h⟩
    · exact State.eq_set_cnv_seq_sch rfl
  · exact State.eq_set_cnv_seq_sch rfl

theorem judgeUrgent_touches (t : Time) (s : State) :
    ∃ v0 v1, judgeUrgent t s = (s.setSch v0).setHost v1 := by
  unfold judgeUrgent
  try dsimp only
  repeat' split
  all_goals exact State.eq_set_sch_host rfl

theorem handOff_touches (o : Measured) (late : Bool) (s : State) :
    ∃ v0 v1 v2 v3, handOff o late s = (((s.setRes v0).setMon v1).setTrp v2).setHost v3 := by
  unfold handOff
  dsimp only
  split
  · obtain ⟨a, b, c, d, h⟩ := evaluateMonitors_touches o.channel o.value (updateSnapshot o.channel
      ⟨o.value, o.stamp, o.port, o.step.map (·.seq), o.clipped, o.untrimmed⟩ s)
    exact ⟨a, b, c, d, h⟩
  · obtain ⟨q, f, hq⟩ := appendRecord_touches o.port (recordOf o late s) s
    rw [hq]
    obtain ⟨a, b, c, d, h⟩ := evaluateMonitors_touches o.channel o.value (updateSnapshot o.channel
      ⟨o.value, o.stamp, o.port, o.step.map (·.seq), o.clipped, o.untrimmed⟩
      ((s.setRes q).setHost f))
    exact ⟨a, b, c, d, h⟩

theorem stepCompleted_touches (r : StepRef) (s : State) :
    ∃ v0 v1, stepCompleted r s = (s.setSeq v0).setHost v1 := by
  unfold stepCompleted
  try dsimp only
  repeat' split
  all_goals exact State.eq_set_seq_host rfl

theorem passUpkeep_touches (k : Option WorkClass) (b : Bool) (s : State) :
    ∃ v0, passUpkeep k b s = s.setSch v0 := by
  unfold passUpkeep
  try dsimp only
  repeat' split
  all_goals exact State.eq_set_sch rfl

theorem takeOutcome_touches (o : Measured) (s : State) :
    ∃ v0 v1 v2 v3 v4 v5 v6, takeOutcome o s = ((((((s.setCnv v0).setSeq v1).setSch v2).setRes v3).setMon v4).setTrp v5).setHost v6 := by
  unfold takeOutcome
  dsimp only
  have hj : ∃ v0 v1, (if serviceClass s = some .urgent then judgeUrgent o.stamp s else s)
      = (s.setSch v0).setHost v1 := by
    split
    · exact judgeUrgent_touches o.stamp s
    · exact ⟨_, _, rfl⟩
  obtain ⟨u, f, hj⟩ := hj
  rw [hj]
  generalize (serviceClass s == some WorkClass.urgent && passLate ((s.setSch u).setHost f)) = late
  generalize endsPass o ((s.setSch u).setHost f) = ended
  obtain ⟨r, m, p, g, ho⟩ := handOff_touches o late ((s.setSch u).setHost f)
  rw [ho]
  generalize serviceClass s = k
  have tail : ∀ z : State, ∃ v0 v1 v2 v3,
      releaseConverter (passUpkeep k ended (match o.step with
        | some r => stepCompleted r z
        | none => z)) = (((z.setCnv v0).setSeq v1).setSch v2).setHost v3 := by
    intro z
    split
    · next r' _ =>
      obtain ⟨q, g', hs⟩ := stepCompleted_touches r' z
      rw [hs]
      obtain ⟨w, hp⟩ := passUpkeep_touches k ended ((z.setSeq q).setHost g')
      rw [hp]
      obtain ⟨a, b, c, h⟩ := releaseConverter_touches (((z.setSeq q).setHost g').setSch w)
      exact ⟨a, b, c, _, h⟩
    · obtain ⟨w, hp⟩ := passUpkeep_touches k ended z
      rw [hp]
      obtain ⟨a, b, c, h⟩ := releaseConverter_touches (z.setSch w)
      exact ⟨a, b, c, _, h⟩
  obtain ⟨a, b, c, d, h⟩ := tail ((((((s.setSch u).setHost f).setRes r).setMon m).setTrp p).setHost g)
  exact ⟨a, b, c, _, _, _, _, h⟩

theorem reportFall_touches (a b : Nat) (s : State) :
    ∃ v0 v1 v2, reportFall a b s = ((s.setCnv v0).setSeq v1).setSch v2 := by
  unfold reportFall
  split
  · exact dispatchIfFree_touches s
  · exact State.eq_set_cnv_seq_sch rfl

theorem takeRelease_touches (r : Resource) (s : State) :
    ∃ v0 v1 v2 v3 v4, takeRelease r s = ((((s.setCfe v0).setCnv v1).setTrg v2).setRes v3).setMon v4 := by
  unfold takeRelease
  try dsimp only
  repeat' split
  all_goals exact State.eq_set_cfe_cnv_trg_res_mon rfl

theorem releaseResource_touches (r : Resource) (s : State) :
    ∃ v0 v1 v2 v3 v4 v5, releaseResource r s = (((((s.setCfe v0).setCnv v1).setTrg v2).setRes v3).setMon v4).setSes v5 := by
  obtain ⟨a, b, c, d, e, h⟩ := takeRelease_touches r (setClaims (s.ses.claims.setOwner r none) s)
  exact ⟨a, b, c, d, e, _, h⟩

theorem takeGrant_touches (r : Resource) (x : Port) (s : State) :
    ∃ v0 v1 v2, takeGrant r x s = ((s.setCfe v0).setTrg v1).setMon v2 := by
  unfold takeGrant
  try dsimp only
  repeat' split
  all_goals exact State.eq_set_cfe_trg_mon rfl

theorem grantResource_touches (r : Resource) (x : Port) (s : State) :
    ∃ v0 v1 v2 v3, grantResource r x s = (((s.setCfe v0).setTrg v1).setMon v2).setSes v3 := by
  obtain ⟨a, b, c, h⟩ := takeGrant_touches r x (setClaims (s.ses.claims.setOwner r (some x)) s)
  exact ⟨a, b, c, _, h⟩

theorem teardownSch_touches (x : Port) (s : State) :
    ∃ v0, teardownSch x s = s.setSch v0 := State.eq_set_sch rfl

theorem teardownSeq_touches (x : Port) (s : State) :
    ∃ v0 v1, teardownSeq x s = (s.setSeq v0).setTrg v1 := State.eq_set_seq_trg rfl

theorem teardownTrg_touches (x : Port) (s : State) :
    ∃ v0, teardownTrg x s = s.setTrg v0 := State.eq_set_trg rfl

theorem teardownMon_touches (x : Port) (s : State) :
    ∃ v0, teardownMon x s = s.setMon v0 := State.eq_set_mon rfl

theorem teardownClaims_touches (x : Port) (s : State) :
    ∃ v0, teardownClaims x s = s.setSes v0 := State.eq_set_ses rfl

theorem teardownTmb_touches (x : Port) (s : State) :
    ∃ v0, teardownTmb x s = s.setTmb v0 := State.eq_set_tmb rfl

theorem teardownConsent_touches (x : Port) (s : State) :
    ∃ v0, teardownConsent x s = s.setSes v0 := State.eq_set_ses rfl

theorem teardownRes_touches (x : Port) (e : SessionEnd) (s : State) :
    ∃ v0 v1, teardownRes x e s = (s.setRes v0).setHost v1 := by
  unfold teardownRes
  split
  · exact appendNotice_touches ..
  · exact State.eq_set_res_host rfl

theorem teardownCfe_touches (x : Port) (s : State) :
    ∃ v0 v1 v2, teardownCfe x s = ((s.setCfe v0).setCnv v1).setRes v2 := by
  have comm : ∀ (s : State) a b c,
      ((s.setCfe a).setRes b).setCnv c = ((s.setCfe a).setCnv c).setRes b := fun _ _ _ _ => rfl
  unfold teardownCfe markConfigChanged
  dsimp only
  exact ⟨_, _, _, comm s _ _ _⟩

theorem teardown_touches (x : Port) (e : SessionEnd) (s : State) :
    ∃ v0 v1 v2 v3 v4 v5 v6 v7 v8 v9, teardown x e s = (((((((((s.setCfe v0).setCnv v1).setSeq v2).setSch v3).setTrg v4).setRes v5).setMon v6).setSes v7).setTmb v8).setHost v9 := by
  unfold teardown
  dsimp only
  obtain ⟨a1, h⟩ := teardownSch_touches x s
  rw [h]
  obtain ⟨a2, a3, h⟩ := teardownSeq_touches x (s.setSch a1)
  rw [h]
  generalize hz : ((s.setSch a1).setSeq a2).setTrg a3 = z1
  obtain ⟨a4, a5, a6, h⟩ := teardownCfe_touches x z1
  rw [h, ← hz]
  generalize hz : ((((((s.setSch a1).setSeq a2).setTrg a3).setCfe a4).setCnv a5).setRes a6) = z2
  obtain ⟨a7, h⟩ := teardownTrg_touches x z2
  rw [h]
  obtain ⟨a8, h⟩ := teardownMon_touches x (z2.setTrg a7)
  rw [h]
  obtain ⟨a9, h⟩ := teardownClaims_touches x ((z2.setTrg a7).setMon a8)
  rw [h]
  obtain ⟨b1, h⟩ := teardownTmb_touches x (((z2.setTrg a7).setMon a8).setSes a9)
  rw [h]
  obtain ⟨b2, b3, h⟩ := teardownRes_touches x e ((((z2.setTrg a7).setMon a8).setSes a9).setTmb b1)
  rw [h]
  obtain ⟨b4, h⟩ := teardownConsent_touches x
    ((((((z2.setTrg a7).setMon a8).setSes a9).setTmb b1).setRes b2).setHost b3)
  rw [h]
  obtain ⟨c1, c2, c3, h⟩ := abandonWhere_touches (fun m => m.port == x)
    (((((((z2.setTrg a7).setMon a8).setSes a9).setTmb b1).setRes b2).setHost b3).setSes b4)
  rw [h, ← hz]
  refine ⟨a4, c1, c2, c3, a7, b2, a8, b4, b1, b3, ?_⟩
  simp only [State.setCfe, State.setCnv, State.setSeq, State.setSch, State.setTrg, State.setRes,
    State.setMon, State.setSes, State.setTmb, State.setHost]

theorem reportMisses_touches (id : SeqId) (q : Sequence) (t : Time) (s : State) :
    ∃ v0 v1, reportMisses id q t s = (s.setRes v0).setHost v1 := by
  unfold reportMisses
  split
  · exact appendNotice_touches ..
  · exact State.eq_set_res_host rfl

theorem triggerArrival_touches (n : SourceId) (t : Time) (s : State) :
    ∃ v0 v1 v2 v3 v4, triggerArrival n t s = ((((s.setCnv v0).setSeq v1).setSch v2).setRes v3).setHost v4 := by
  have pad : ∀ v, s.setSeq v
      = ((((s.setCnv s.cnv).setSeq v).setSch s.sch).setRes s.res).setHost s.host := fun _ => rfl
  have same : s = ((((s.setCnv s.cnv).setSeq s.seq).setSch s.sch).setRes s.res).setHost s.host := rfl
  unfold triggerArrival
  split
  · exact ⟨_, _, _, _, _, same⟩
  · split
    · exact ⟨_, _, _, _, _, same⟩
    · next id _ _ q _ =>
      split
      · exact ⟨_, _, _, _, _, same⟩
      · obtain ⟨r, f, hr⟩ := reportMisses_touches id q t s
        rw [hr]
        obtain ⟨a, b, c, h⟩ := urgentRequest_touches id (budgetOf q.kind) t
          (setSequence id (some { q with state := .pending, misses := 0 })
            ((s.setRes r).setHost f))
        exact ⟨a, b, c, r, f, h.trans (by
          simp only [setSequence, State.setCnv, State.setSeq, State.setSch, State.setRes,
            State.setHost])⟩
      · exact ⟨_, _, _, _, _, pad _⟩
      · exact ⟨_, _, _, _, _, pad _⟩
      · exact ⟨_, _, _, _, _, same⟩

end Sys2Proof.Machine
end

