-- ==== Sys2Proof/Tests/Slice0.lean ====
section
/-! SUPPORT. Tests of single steps against the manual's worked figures, the smoke test of WellFormed, the frame words, and one witness for the hypotheses of each statement. -/

namespace Sys2Proof.Tests

open Sys2Proof.Machine Sys2Proof.Safety

set_option Elab.async false

/-! ### Small states -/

/-- A lease of 1000 ms under RENEW_ANY taken at time 0. -/
def lease : Lease := leaseFrom 1000 .renewAny 0

/-- READY with a trim fault, both sessions OPEN, nothing claimed and nothing in flight. -/
def base : State :=
  ((State.reset.setCnv { cnvReset identityStore with state := .idle }).setSch (schReset .free)).setSes
    ⟨⟨.opened lease, .opened lease⟩, sesReset.claims, none⟩

/-- `base` with channels 0 and 1, monitor 0 and sources 0 and 4 owned by A. -/
def owned : State :=
  grantResource (.channel 0) .A (grantResource (.channel 1) .A (grantResource (.monitor 0) .A
    (grantResource (.source 0) .A (grantResource (.source 4) .A base))))

/-- A one-step sequence of A on the die temperature channel. -/
def oneStep (k : SeqKind) (st : SeqState) : Sequence := ⟨.A, k, [⟨24, .n1, false⟩], st, 6, 0, 0, 0⟩

/-- `owned` with that sequence at id 0. -/
def withSeq (k : SeqKind) (st : SeqState) : State := setSequence 0 (some (oneStep k st)) owned

/-- A CONVERT_NOW measurement of A on channel 9. -/
def shot : Measurement := ⟨.A, none, 9, .n4, .bipolar10V, .single, 10, false, 3, -3608, false, false⟩

/-- `base` with `shot` in SAMPLING, one sample short, and the trim entry of Figure 2-2. -/
def sampling : State :=
  (base.setCnv ⟨.sampling shot 5010, tset identityTrim 0 ⟨32900, -14⟩, .trimValid, identityStore⟩).setSch
    { schReset (.busy ⟨.prompt, .A, .immediate 9, false, false⟩) with
      activePrompt := some ⟨.A, .immediate 9 .n4⟩ }

/-- A background measurement of sequence 0, step 0. -/
def backgroundStep (cut : Bool) : Measurement :=
  ⟨.A, some ⟨0, 0⟩, 24, .n1, .unipolar2V5, .single, 50, false, 0, 0, false, cut⟩

/-- Sequence 0 of A CONTINUOUS and RUNNING, its step in flight as background work. -/
def inBackground (c : ConvState) (shielded cut : Bool) : State :=
  ((withSeq .continuous .running).setCnv { cnvReset identityStore with state := c }).setSch
    (schReset (.busy ⟨.background, .A, .step ⟨0, 0⟩, shielded, cut⟩))

/-- `base` with `n` records in the queue of A and `d` of them delivered. -/
def queued (n d : Nat) : State :=
  setQueue .A ⟨List.replicate n (.notice .tripCleared 0 0), d, 2, 16⟩ base

/-- The latch TRIPPED with the causes of a monitor of A and of TRIPIN. -/
def twoCauses : State := owned.setTrp ⟨.tripped, 0x012, .inactive, .low, .low⟩

/-- Levels at a reset: TRIPIN active, port A selected. -/
def levels : LineLevels := ⟨.high, .low, .low, .low, .low, .high, true, false⟩

/-- The state after a command, from its outcome. -/
def after (i : Instr) (s : State) : State :=
  match exec i s with
  | .next t => t
  | .fault _ => s
  | .refused _ => s

/-! ### WellFormed refuses an ill-formed term of each check -/

theorem test_wf_args : (Instr.status .A 0 (List.replicate 32 0)).wf = false := by decide
theorem test_wf_unknown_args : (Instr.unknownCommand .A 0x7F 0 (List.replicate 32 0)).wf = false := by
  decide
theorem test_wf_known_code : (Instr.unknownCommand .A 0x10 0 []).wf = false := by decide
theorem test_wf_good_frame : (Instr.frameError .A (encodeFrame .ident 3 []) 0).wf = false := by decide +kernel
theorem test_wf_bad_frame : (Instr.frameError .A (encodeFrame .ident 3 []) 1).wf = true := by decide +kernel

/-! ### Frame words (Tables 11-1, 11-2 and 11-3, R156) -/

/-- R156: the check value of the words of "12345678". -/
theorem test_crc : crc16 [0x3132, 0x3334, 0x3536, 0x3738] = 0xA12B := by decide +kernel

/-- OPEN (0x01), tag 2, two arguments: 0000001 0010 00010. -/
theorem test_header_open : commandHeader 0x01 2 2 = 0x0242 := by decide

/-- READ_RESULTS (0x40), tag 15, two arguments: 1000000 1111 00010. -/
theorem test_header_read : commandHeader 0x40 15 2 = 0x81E2 := by decide

/-- IDENT, tag 3: header 0010001 0011 00000 and its CRC, with filler. -/
theorem test_decode_ident :
    decodeFrame .B [0x2260, crc16 [0x2260], 0xFFFF, 0xFFFF] 0 = .ident .B 3 [] := by decide +kernel

/-- CLAIM CHANNEL 9, tag 1: header 0011000 0001 00010. -/
theorem test_decode_claim :
    decodeFrame .A [0x3022, 0, 9, crc16 [0x3022, 0, 9]] 0 = .claim .A 1 [0, 9] := by decide +kernel

/-- Code 0x07 is not in Table 11-2: header 0000111 0000 00000. -/
theorem test_decode_unknown :
    decodeFrame .A [0x0E00, crc16 [0x0E00]] 0 = .unknownCommand .A 0x07 0 [] := by decide +kernel

/-- A partial word, and a frame one argument short. -/
theorem test_decode_partial :
    decodeFrame .A [0x2260, crc16 [0x2260]] 5 = .frameError .A [0x2260, crc16 [0x2260]] 5 := by decide +kernel
theorem test_decode_short : decodeFrame .A [0x3022, 0, 9] 0 = .frameError .A [0x3022, 0, 9] 0 := by
  decide +kernel

/-- Step word: quiet, 4 samples, channel 26 (Table 11-2, note 1). -/
theorem test_step_word : stepOf 0x841A = some ⟨26, .n4, true⟩ ∧ stepOf 0xA41A = none
    ∧ stepOf 0x031A = none ∧ stepOf 0x0420 = none := by decide

/-- The OK response to an OPEN from CLOSED with tag 2: status 0, tag 2, one payload word. -/
theorem test_response_words : (responseWords ⟨.ok, 2, [0]⟩).take 2 = [0x0081, 0] := by decide

/-- A record of sequence 3, step 1, with LATE and 3 restarts (Table 11-5). -/
theorem test_record_words :
    recordWords (.measurement (some ⟨3, 1, 21⟩) 9 (-1222) 5010 true false false false 3 2)
      = [0x4C78, 0x1502, 0xFB3A, 0x0000, 0x1392, 0x0009] := by decide

/-! ### Worked figures -/

/-- Figure 2-2: samples summing to -4809, N = 4, gain 32900, offset -14 give -1222. -/
theorem test_value : saturate (trimExact ⟨32900, -14⟩
    (average { shot with sum := -4809, taken := 4 })) = -1222 := by decide

/-- Figure 2-3: N = 2, sum 65527, gain 33000, offset +20 saturate to +32767. -/
theorem test_saturation : saturate (trimExact ⟨33000, 20⟩
    (average { shot with samples := .n2, sum := 65527 })) = 32767 := by decide

/-- Figure 2-2: the last completion stores the value with timestamp 5010. -/
theorem test_sample_completion :
    tget (after (.sampleCompletion (-1201)) sampling).res.snapshot 9
      = ⟨1, some ⟨-1222, 5010, .A, none, false, false⟩⟩ := by decide +kernel

/-- Table 1-3: code -32768 is 0 V in the unipolar ranges, and code 0 is 0 V in the bipolar ones. -/
theorem test_nominal : nominalInput .unipolar2V5 (-32768) = 0 ∧ nominalInput .bipolar10V 0 = 0 := by
  decide

/-- Figure 7-2, rows 6, 7 and 10: third outside value in a row, then 25700 above the band. -/
theorem test_monitor_violated :
    (Monitor.evaluate ⟨some .B, 26, 20000, 26000, 500, 3, .trip, .counting, 2⟩ 26300).state
        = .violated
      ∧ (Monitor.evaluate ⟨some .B, 26, 20000, 26000, 500, 3, .trip, .violated, 3⟩ 25700).state
        = .violated
      ∧ (Monitor.evaluate ⟨some .B, 26, 20000, 26000, 500, 3, .trip, .violated, 3⟩ 25400).state
        = .within := by decide

/-- Figure 7-2, row 12: A removes EXT, and M2 of B's monitor stays. -/
theorem test_trip_ack_keeps :
    (after (.tripAck .A 0 []) ((setMonitorAt 2 ⟨some .B, 26, 20000, 26000, 500, 3, .trip, .violated, 3⟩
      base).setTrp ⟨.tripped, 0x042, .inactive, .low, .low⟩)).trp.causes = 0x040 := by decide +kernel

/-- Figure 9-1, row 5: a count of 3789 is OSC_SLOW. -/
theorem test_refclk :
    (after .refclkEdge (base.setTmb { tmbReset .low with
      counter := 70248, check := some ⟨.counting 7, ⟨true, true⟩, 3789⟩ })).tmb.lastVerdict
      = .oscSlow := by decide +kernel

/-- Figure 12-1, row 3: OPEN during the load is refused with NOT_READY. -/
theorem test_open_starting :
    (hostPort .B (after (.openSession .B 2 [500, 1]) State.reset)).response = ⟨.notReady, 2, []⟩ := by
  decide +kernel

/-- Figure 12-1, row 4: the check word of the store matches, so the trim is valid. -/
theorem test_trim_load : (after .endOfTrimLoad State.reset).cnv.trimState = .trimValid
    ∧ (after .endOfTrimLoad State.reset).sch.view = .free := by decide +kernel

/-- Figure 12-1, row 1: RESETN released leaves STARTING, {STARTUP} and RESET_DONE (POWER). -/
theorem test_reset_release :
    (after (.resetnRelease levels) (pinReset .high base)).trp = ⟨.tripped, 3, .active, .high, .high⟩
      ∧ (hostPort .A (after (.resetnRelease levels) (pinReset .high base))).receiver = .discarding :=
  by decide +kernel

/-- State.reset is what POWER_ON with the levels of assumption 7 leaves. -/
theorem test_power_on :
    powerOn .low ⟨.low, .low, .low, .low, .high, .low, false, false⟩ State.reset = State.reset := by
  decide +kernel

/-- Figure 3-3: RUN 0 with nothing else to do starts pass 7 at once. -/
theorem test_run :
    (Machine.sequence 0 (after (.run .A 0 [0]) (withSeq .keyed .armed))).map (fun q => (q.state, q.pass))
      = some (.running, 7) := by decide +kernel

/-- Figure 3-4: HALT keeps the pass and leaves the sequence DEFINED, with one notice. -/
theorem test_halt :
    (Machine.sequence 0 (after (.halt .A 0 [0]) (withSeq .keyed .armed))).map (fun q => (q.state, q.pass))
        = some (.defined, 6)
      ∧ queueCount .A (after (.halt .A 0 [0]) (withSeq .keyed .armed)) = 1 := by decide +kernel

/-- Figure 6-2, rows 3 and 6: a discard at 64 records, and a read that falls below 64. -/
theorem test_append_full : (resultQueue .A (appendNotice .A (.mark 1) 0 (queued 64 8))).gap = 3 := by
  decide +kernel
theorem test_read_results :
    queueCount .A (after (.readResults .A 0 [8, 8]) (queued 64 8)) = 56
      ∧ (resultQueue .A (after (.readResults .A 0 [8, 8]) (queued 64 8))).delivered = 8 := by
  decide +kernel

/-- Figure 8-2: OPEN 100 at 0 gives warning 50 ms and expiry 100 ms. -/
theorem test_open_lease :
    session .A (after (.openSession .A 0 [100, 0]) (setSession .A .closed base))
      = .opened ⟨100, .renewAny, 0, some 50000, 100000⟩ := by decide +kernel

/-- Figure 8-3, row 6: the channel went to B, so ENABLE from A is FOREIGN. -/
theorem test_enable_foreign :
    (hostPort .A (after (.enable .A 0 [4]) (grantResource (.channel 9) .B
      (setSequence 4 (some ⟨.A, .continuous, [⟨9, .n1, false⟩], .defined, 0, 0, 0, 0⟩) base)))).response
      = ⟨.foreign, 0, []⟩ := by decide +kernel

/-- Figure 12-5, rows 1 and 7: RESET_DEVICE is PENDING, and the other port's completes it. -/
theorem test_reset_device :
    (hostPort .A (after (.resetDevice .A 5 []) base)).response = ⟨.pending, 5, []⟩
      ∧ (hostPort .B (after (.resetDevice .A 5 []) base)).flags = 0x080
      ∧ (hostPort .B (after (.resetDevice .B 0 []) (after (.resetDevice .A 5 []) base))).response
        = ⟨.resetDone, 0, [1]⟩ := by decide +kernel

/-- Figure 4-2, rows 3 and 14: an arrival cuts a background step, at once from SETTLING. -/
theorem test_cut :
    (urgentRequest 1 5 40081 (inBackground (.sampling (backgroundStep false) 40076) false false)).cnv.state
      = .sampling (backgroundStep true) 40076 := by decide +kernel

/-! ### Witnesses: states and operands that meet the hypotheses of the statements

Each theorem is named after its statement and meets the hypotheses of each of its clauses, at
boundary values where a clause has a range. -/

/-- `base` with the session of A at `v`. -/
def inSession (v : Session) : State := setSession .A v base

/-- `base` with a consent window that `asker` opened. -/
def asked (asker : Port) : State := setConsent (some ⟨asker, 250000, true⟩) base

/-- `base` with the receiver of A at `r`. -/
def receiverAt (r : Receiver) : State := setHostPort .A { hostPort .A base with receiver := r } base

/-- `owned` with DIFF on channel 0, so that channel 1 is absorbed. -/
def paired : State := owned.setCfe (tset owned.cfe 0 ⟨.bipolar10V, .diff, 10, some .A⟩)

/-- `base` with `n` prompt entries of A. -/
def prompted (n : Nat) : State :=
  base.setSch { schReset .free with prompt := List.replicate n ⟨.A, .immediate 24 .n1⟩ }

/-- `base` with an active urgent pass of sequence 0. -/
def urgentPass (d : Option Time) (j : PassJudgement) : State :=
  (withSeq (.triggered 0 5) .running).setSch
    { schReset .free with activeUrgent := some ⟨0, .A, 100, d, j⟩ }

/-- `withSeq` with its source 0 bound to it and `n` misses. -/
def bound (st : SeqState) (n : Nat) : State :=
  setBound 0 (some 0) (setSequence 0 (some { oneStep (.triggered 0 5) st with misses := n }) owned)

/-- `owned` with cadence timer 0 at `r`. -/
def timerAt (r : TimerRun) : State :=
  owned.setTrg { owned.trg with timer := tset owned.trg.timer 0 ⟨1000, r⟩ }

/-- `owned` with monitor 0 on channel 24 at `st`, limits -10 to 10. -/
def monitorAt (st : MonState) (n : Nat) : State :=
  setMonitorAt 0 ⟨some .A, 24, -10, 10, 1, 2, .trip, st, n⟩ owned

/-- `base` with a clock check of both ports at `p`. -/
def checking (p : CheckPhase) (ticks : Nat) : State :=
  base.setTmb { tmbReset .low with check := some ⟨p, ⟨true, true⟩, ticks⟩ }

/-- `s` with a one-step sequence 0 of A on channel `c`. -/
def naming (c : Channel) (k : SeqKind) (st : SeqState) (s : State) : State :=
  setSequence 0 (some { oneStep k st with steps := [⟨c, .n1, false⟩] }) s

/-- `withSeq` with `n` prompt entries of A waiting. -/
def crowded (n : Nat) (k : SeqKind) (st : SeqState) : State :=
  (withSeq k st).setSch { schReset .free with prompt := List.replicate n ⟨.A, .immediate 24 .n1⟩ }

/-- `owned` with `u` of the 128 step store entries in use and `n` of them A's. -/
def stored (u n : Nat) : State :=
  owned.setSeq { owned.seq with stepTotal := u, stepCount := ⟨n, u - n⟩ }

/-- `owned` with a one-step sequence of `x` in each of the entries below `n`. -/
def crammed (x : Port) (n : Nat) : State :=
  owned.setSeq { owned.seq with
    table := Vector.ofFn fun id =>
      if id.val < n then some { oneStep .keyed .defined with owner := x } else none }

/-- A sequence 0 of A, PROMPT, in its active pass with no step in flight. -/
def promptPass : State :=
  (withSeq .keyed .running).setSch
    { schReset .free with activePrompt := some ⟨.A, .sequence 0⟩ }

/-- `base` with everything a port can hold held by A, and a measurement of B in flight. -/
def laden : State :=
  ((bound .pending 3).setSch { schReset (.busy ⟨.prompt, .B, .immediate 24, false, false⟩) with
      urgent := [⟨0, 100, some 105⟩]
      prompt := [⟨.A, .immediate 25 .n1⟩, ⟨.B, .immediate 26 .n1⟩]
      activePrompt := some ⟨.B, .immediate 24 .n1⟩ }).setCnv
    { cnvReset identityStore with state := .settling { shot with port := .B } 50 }

/-- `laden` with the measurement of B on channel 0, which A claimed. -/
def ladenOn : State :=
  laden.setCnv { laden.cnv with state := .settling { shot with port := .B, channel := 0 } 50 }

/-- `owned` with a measurement of B in flight on channel 0. -/
def measuring : State :=
  owned.setCnv { owned.cnv with state := .settling { shot with port := .B, channel := 0 } 50 }

/-- A CONTINUOUS sequence 3 of A with one step, and `n` records in the queue of A. -/
def rotating (st : SeqState) (quiet : Bool) (n : Nat) : State :=
  setSequence 3 (some { oneStep .continuous st with steps := [⟨24, .n1, quiet⟩] })
    ((queued n 0).setSch { schReset .free with lastServed := ⟨2, 15⟩ })

/-- The latch ARMED, and monitor 0 of A on channel 24, one outside value short of VIOLATED. -/
def armedWith (a : MonAction) : State :=
  (setMonitorAt 0 ⟨some .A, 24, -10, 10, 1, 2, a, .counting, 1⟩ owned).setTrp
    ⟨.armed, 0, .inactive, .low, .high⟩

/-- Every timer due at counter 1. -/
def allDue : State :=
  (((timerAt (.running 1)).setCnv { owned.cnv with state := .settling shot 1 }).setSes
      { owned.ses with
        session := ⟨.opened ⟨10, .renewAny, 0, some 1, 1⟩, .opened ⟨10, .renewAny, 0, some 1, 1⟩⟩
        consent := some ⟨.A, 1, true⟩ }).setTmb
    { tmbReset .low with counter := 1, check := some ⟨.awaitingEdge, ⟨true, true⟩, 8191⟩ }

/-- The last sample of step 0 of sequence 0 is under way in the class `cls`. -/
def lastSample (cls : WorkClass) (k : SeqKind) : State :=
  ((withSeq k .running).setCnv
      { cnvReset identityStore with state := .sampling (backgroundStep false) 40 }).setSch
    { schReset (.busy ⟨cls, .A, .step ⟨0, 0⟩, false, false⟩) with
      activeUrgent := if cls = .urgent then some ⟨0, .A, 100, some 105, .undecided⟩ else none
      activePrompt := if cls = .prompt then some ⟨.A, .sequence 0⟩ else none }

theorem witness_StepRunsFrontCommand :
    (base.setPending [.refclkEdge]).pending = .refclkEdge :: [] ∧ base.pending = [] := ⟨rfl, rfl⟩

theorem witness_CommandsKeepQueue :
    exec .refclkEdge (base.setPending [.endOfTrimLoad]) = .next (base.setPending [.endOfTrimLoad]) :=
  rfl

theorem witness_FrameRoundTrip :
    (List.replicate 31 (0xFFFF : Word)).length ≤ 31 ∧ ([] : List Word).length ≤ 31 := by decide

theorem witness_FramesWithoutCommand :
    takesFrame .A base = true ∧ (∀ c, commandCode c ≠ 0x7F) ∧ (∀ c, commandCode c ≠ 0x00)
      ∧ (List.replicate 31 (0 : Word)).length ≤ 31 :=
  ⟨rfl, fun c => by cases c <;> decide, fun c => by cases c <;> decide, by decide⟩

theorem witness_CheckOrder :
    (takesFrame .A State.reset = true ∧ State.reset.cnv.state = .starting
        ∧ HostCommand.openSession ≠ .status ∧ HostCommand.openSession ≠ .ident
        ∧ HostCommand.openSession ≠ .repeatLast)
      ∧ (takesFrame .A (inSession .closed) = true ∧ started (inSession .closed) = true
        ∧ passesSession (session .A (inSession .closed)) .claim = false)
      ∧ (takesFrame .A (inSession .lapsed) = true ∧ started (inSession .lapsed) = true
        ∧ passesSession (session .A (inSession .lapsed)) .renew = false)
      ∧ (takesFrame .A base = true ∧ started base = true
        ∧ passesSession (session .A base) .defineSequence = true
        ∧ acceptedCount .defineSequence 3 = false ∧ acceptedCount .defineSequence 20 = false)
      ∧ takesFrame .A (inSession .closed) = true ∧ ([0] : List Word) ≠ [] := by
  decide +kernel

/-- STATUS with an argument in STARTING is refused with BAD_ARGUMENT (R158, R159). -/
theorem test_status_starting :
    (hostPort .A (after (.status .A 1 [0]) State.reset)).response = ⟨.badArgument, 1, []⟩ := by
  decide +kernel

theorem witness_RefusalsChangeNothing :
    takesFrame .A base = true ∧ HostCommand.claim ≠ .repeatLast
      ∧ isRefusal (hostPort .A (after (.claim .A 1 [0, 24]) base)).response.status = true := by
  decide +kernel

theorem witness_RenewalByAnswer :
    (takesFrame .A base = true ∧ session .A base = .opened lease
        ∧ (∃ t, exec (commandRow .A .status 0 []) base = .next t
          ∧ (hostPort .A t).response.status = .ok))
      ∧ ∃ t, exec (commandRow .A .resetDevice 0 []) base = .next t
        ∧ (hostPort .A t).response.status = .pending :=
  ⟨⟨rfl, rfl, _, rfl, by decide +kernel⟩, _, rfl, by decide +kernel⟩

theorem witness_RenewalByAnswer_explicit :
    ∃ t, exec (commandRow .A .status 0 [])
        (inSession (.opened (leaseFrom 10 .renewExplicit 0))) = .next t
      ∧ (hostPort .A t).response.status = .ok :=
  ⟨_, rfl, by decide +kernel⟩

theorem witness_FrameReceiver :
    (base.resetActive = false ∧ (hostPort .A base).receiver = .idle)
      ∧ ((receiverAt .discarding).resetActive = false
        ∧ (hostPort .A (receiverAt .discarding)).receiver = .discarding)
      ∧ (base.setResetActive true).resetActive = true := by decide +kernel

theorem witness_DataOutWords :
    0 < (Response.mk .resetDone 0 [1]).payload.length
      ∧ (Response.mk .resetDone 0 [1]).payload.length + 2 ≤ 3 := by decide

theorem witness_PinResetEqualsPowerOn :
    exec (.pinReset .high) base = .next (pinReset .high base) := rfl

theorem witness_TrimLoadEnds :
    (State.reset.cnv.state = .starting ∧ State.reset.resetActive = false
        ∧ State.reset.sch = ⟨.notReady, [], [], none, none, .A, ⟨15, 15⟩⟩
        ∧ (∀ id, Machine.sequence id State.reset = none)
        ∧ crc16 (State.reset.cnv.store.toList.take 8) = tget State.reset.cnv.store 8)
      ∧ crc16 ((tset identityStore 8 0).toList.take 8) ≠ tget (tset identityStore 8 0) 8 := by
  decide +kernel

theorem witness_ResetRequests :
    (takesFrame .A (setSession .B .closed base) = true ∧ started (setSession .B .closed base) = true
        ∧ (setSession .B .closed base).ses.consent = none
        ∧ sessionOpen (otherPort .A) (setSession .B .closed base) = false)
      ∧ (base.ses.consent = none ∧ sessionOpen (otherPort .A) base = true)
      ∧ (takesFrame .A (asked .B) = true ∧ started (asked .B) = true
        ∧ sessionOpen .A (asked .B) = true
        ∧ (asked .B).ses.consent = some ⟨otherPort .A, 250000, true⟩)
      ∧ (takesFrame .A (asked .A) = true ∧ started (asked .A) = true
        ∧ (asked .A).ses.consent = some ⟨.A, 250000, true⟩)
      ∧ sessionOpen .A (inSession .lapsed) = false := by decide +kernel

theorem witness_OpenRenewSetLease :
    (takesFrame .A (inSession .closed) = true ∧ started (inSession .closed) = true
        ∧ session .A (inSession .closed) = .closed)
      ∧ (takesFrame .A (inSession .lapsed) = true ∧ started (inSession .lapsed) = true
        ∧ session .A (inSession .lapsed) = .lapsed)
      ∧ (takesFrame .A base = true ∧ started base = true ∧ session .A base = .opened lease)
      ∧ (10 ≤ (10 : Word).toNat ∧ (10 : Word).toNat ≤ 60000) ∧ (60000 : Word).toNat ≤ 60000
      ∧ (9 : Word).toNat < 10 ∧ 60000 < (60001 : Word).toNat ∧ (1 : Word).toNat < 2
      ∧ 2 ≤ (2 : Word).toNat := by decide +kernel

theorem witness_CloseSession :
    (admitted .A base = true ∧ base.ses.consent = none)
      ∧ (admitted .A (asked .A) = true ∧ (asked .A).ses.consent = some ⟨.A, 250000, true⟩)
      ∧ admitted .A (asked .B) = true
        ∧ (asked .B).ses.consent = some ⟨otherPort .A, 250000, true⟩ := by decide +kernel

theorem witness_LeaseAndWindowExpiries :
    (session .A base = .opened lease ∧ lease.warning = some 500000 ∧ base.ses.consent = none)
      ∧ (session .A (asked .B) = .opened lease
        ∧ (asked .B).ses.consent = some ⟨otherPort .A, 250000, true⟩) := by decide +kernel

theorem witness_TeardownResult :
    copiesAgree laden ∧ tget laden.ses.claims.channel 0 = some .A
      ∧ tget laden.ses.claims.channel 2 ≠ some .A
      ∧ tget laden.ses.claims.monitor 0 = some .A ∧ tget laden.ses.claims.monitor 1 ≠ some .A
      ∧ tget laden.ses.claims.source (lineSource 0) = some .A
      ∧ tget laden.ses.claims.source (timerSource 0) = some .A
      ∧ tget laden.ses.claims.source (timerSource 1) ≠ some .A
      ∧ Machine.sequence 0 laden = some { oneStep (.triggered 0 5) .pending with misses := 3 }
      ∧ inFlight laden = some { shot with port := .B }
      ∧ laden.sch.activePrompt = some ⟨.B, .immediate 24 .n1⟩
      ∧ (resultQueue .A laden).records.length < 64 ∧ 64 ≤ (resultQueue .A (queued 64 8)).records.length := by
  unfold copiesAgree
  decide +kernel

theorem witness_TeardownResult_inFlight :
    (inFlight ladenOn = some { shot with port := .B, channel := 0 }
        ∧ (∀ d, claimsChannel .A d ladenOn = true ↔
          ∃ c, d = channelOf c ∧ tget ladenOn.ses.claims.channel c = some .A)
        ∧ Machine.sequence 0 ladenOn = some { oneStep (.triggered 0 5) .pending with misses := 3 }
        ∧ (oneStep (.triggered 0 5) .pending).owner ≠ .B)
      ∧ inFlight laden = some { shot with port := .B }
      ∧ inFlight (laden.setCnv sampling.cnv) = some shot ∧ shot.port = .A := by decide +kernel

/-- The teardown of A marks the measurement of B on a channel that A claimed, and no other (R11). -/
theorem test_teardown_marks :
    (inFlight (teardown .A .close ladenOn)).map (·.cfgChanged) = some true
      ∧ (inFlight (teardown .A .close laden)).map (·.cfgChanged) = some false := by decide +kernel

/-- The teardown of B takes the measurement in flight, and a dispatch follows. -/
theorem test_teardown_dispatches :
    (teardown .B .close laden).sch.activeUrgent = some ⟨0, .A, 100, some 105, .undecided⟩
      ∧ (teardown .B .close laden).sch.activePrompt = none
      ∧ (teardown .A .close laden).sch.urgent = []
      ∧ (teardown .A .close laden).sch.prompt = [⟨.B, .immediate 26 .n1⟩] := by decide +kernel

theorem witness_ClaimsGrantsReleases :
    (admitted .A owned = true ∧ 2 < (3 : Word).toNat ∧ 24 ≤ (24 : Word).toNat ∧ 8 ≤ (8 : Word).toNat)
      ∧ (admitted .A owned = true ∧ resourceOf 0 1 = some (.channel 1)
        ∧ claimOwner (.channel 1) owned = some .A)
      ∧ (admitted .B owned = true ∧ resourceOf 2 4 = some (.source 4)
        ∧ claimOwner (.source 4) owned = some (otherPort .B))
      ∧ (admitted .B (naming 9 .continuous .running base) = true
        ∧ resourceOf 0 9 = some (.channel 9)
        ∧ claimOwner (.channel 9) (naming 9 .continuous .running base) = none
        ∧ usedBySequences (otherPort .B) (channelOf 9) (naming 9 .continuous .running base) = true)
      ∧ (admitted .B owned = true ∧ resourceOf 1 7 = some (.monitor 7)
        ∧ claimOwner (.monitor 7) owned = none)
      ∧ (admitted .B owned = true ∧ resourceOf 0 23 = some (.channel 23)
        ∧ claimOwner (.channel 23) owned = none
        ∧ usedBySequences (otherPort .B) (channelOf 23) owned = false
        ∧ usedByMonitors (otherPort .B) (channelOf 23) owned = false) := by
  decide +kernel

theorem witness_SetChannel :
    (admitted .A owned = true ∧ (0 : Word).toNat = (0 : ExtChannel).val
        ∧ rangeOf 3 = some .unipolar2V5 ∧ modeOf 0 = some .single ∧ modeOf 1 = some .diff
        ∧ (1023 : Word).toNat ≤ 1023 ∧ (tget owned.cfe 0).owner = some .A
        ∧ absorbedExt 0 owned = false ∧ oddPartner 0 = some 1
        ∧ (tget owned.cfe 1).owner = some .A
        ∧ usedBySequences .A (channelOf 1) owned = false
        ∧ usedByMonitors .A (channelOf 1) owned = false ∧ owned.sch.prompt = []
        ∧ owned.sch.activePrompt = none ∧ inFlight owned = none)
      ∧ (admitted .A paired = true ∧ (tget paired.cfe 0).owner = some .A
        ∧ absorbedExt 0 paired = false ∧ (tget paired.cfe 0).mode = .diff
        ∧ (tget paired.cfe 1).owner = some .A)
      ∧ (admitted .A measuring = true ∧ (tget measuring.cfe 0).owner = some .A
        ∧ (tget measuring.cfe 1).owner = some .A ∧ absorbedExt 0 measuring = false
        ∧ absorbedExt 1 measuring = false
        ∧ inFlight measuring = some { shot with port := .B, channel := 0 }
        ∧ (0 : Channel) = channelOf 0 ∧ (0 : Channel) ≠ channelOf 1) := by decide +kernel

theorem witness_ChannelAndSequenceRefusals_channel :
    (admitted .A owned = true ∧ 24 ≤ (24 : Word).toNat ∧ 4 ≤ (4 : Word).toNat
        ∧ 2 ≤ (2 : Word).toNat ∧ 1023 < (1024 : Word).toNat ∧ (1 : Word).toNat % 2 = 1)
      ∧ (admitted .A owned = true ∧ (3 : Word).toNat < 4 ∧ (1023 : Word).toNat ≤ 1023
        ∧ (2 : Word).toNat = (2 : ExtChannel).val ∧ (2 : ExtChannel).val % 2 = 0
        ∧ (tget owned.cfe 2).owner ≠ some .A)
      ∧ (admitted .A paired = true ∧ (1 : Word).toNat = (1 : ExtChannel).val
        ∧ (tget paired.cfe 1).owner = some .A ∧ absorbedExt 1 paired = true)
      ∧ (∀ s ∈ [grantResource (.channel 22) .A base], admitted .A s = true
        ∧ (22 : Word).toNat = (22 : ExtChannel).val ∧ (tget s.cfe 22).owner = some .A
        ∧ oddPartner 22 = some 23 ∧ (tget s.cfe 23).owner ≠ some .A)
      ∧ ∀ s ∈ [naming 1 .keyed .armed owned,
          setMonitorAt 0 ⟨some .A, 1, -10, 10, 1, 2, .trip, .within, 0⟩ owned,
          owned.setSch { schReset .free with prompt := [⟨.B, .immediate 1 .n1⟩] },
          owned.setSch { schReset .free with activePrompt := some ⟨.A, .immediate 1 .n1⟩ },
          owned.setCnv { owned.cnv with state := .settling { shot with channel := 1 } 50 }],
        admitted .A s = true ∧ (0 : Word).toNat = (0 : ExtChannel).val
          ∧ (tget s.cfe 0).owner = some .A ∧ oddPartner 0 = some 1
          ∧ (tget s.cfe 1).owner = some .A ∧ (tget s.cfe 0).mode = .single
          ∧ (usedBySequences .A (channelOf 1) s = true ∨ usedByMonitors .A (channelOf 1) s = true
            ∨ (s.sch.prompt = [⟨.B, .immediate (channelOf 1) .n1⟩]
              ∨ s.sch.activePrompt = some ⟨.A, .immediate (channelOf 1) .n1⟩)
            ∨ (inFlight s).map (·.channel) = some (channelOf 1)) := by decide +kernel

theorem witness_ChannelAndSequenceRefusals_badArgument :
    admitted .A owned = true ∧ 2 < (3 : Word).toNat ∧ ([] : List Word).length = 0
      ∧ 16 < (List.replicate 17 (0x0118 : Word)).length ∧ 7 < (8 : Word).toNat
      ∧ (1 : Word) ≠ 0 ∧ (0x2118 : Word).extractLsb' 13 2 ≠ 0
      ∧ 31 < ((0x0120 : Word).extractLsb' 0 8).toNat
      ∧ ∀ n : SampleCount, ((0x0318 : Word).extractLsb' 8 5).toNat ≠ n.toNat := by
  refine ⟨rfl, by decide, rfl, by decide, by decide, by decide, by decide, by decide, fun n => ?_⟩
  cases n <;> decide

/-- The words of the next six witnesses: a step on channel 24, or on channel 0 or 1. -/
theorem test_step_words : stepsOf [0x0118] = some [⟨24, .n1, false⟩]
    ∧ stepsOf [0x0100] = some [⟨0, .n1, false⟩] ∧ stepsOf [0x0101] = some [⟨1, .n1, false⟩]
    ∧ kindOf 0 7 5 = some (.triggered 7 5) ∧ kindOf 0 0 5 = some (.triggered 0 5)
    ∧ kindOf 1 0 0 = some .keyed := by decide

theorem witness_ChannelAndSequenceRefusals_sequence :
    (admitted .A owned = true ∧ tget owned.trg.owner 7 ≠ some .A)
      ∧ (admitted .B owned = true ∧ foreignTo .B 0 owned = true)
      ∧ (∀ s ∈ [crammed .B 16, crammed .A 12, stored 128 0, stored 96 96],
        admitted .A s = true ∧ foreignTo .A 24 s = false
          ∧ ((∀ id, Machine.sequence id s ≠ none) ∨ 12 ≤ sequencesHeld .A s
            ∨ 128 < s.seq.stepTotal + 1 ∨ 96 < s.seq.stepCount.get .A + 1))
      ∧ (admitted .A paired = true ∧ foreignTo .A 1 paired = false ∧ absorbed 1 paired = true
        ∧ Machine.sequence 0 paired = none ∧ sequencesHeld .A paired < 12
        ∧ paired.seq.stepTotal + 1 ≤ 128 ∧ paired.seq.stepCount.get .A + 1 ≤ 96)
      ∧ (admitted .A (bound .armed 0) = true ∧ tget (bound .armed 0).trg.owner 0 = some .A
        ∧ tget (bound .armed 0).trg.bound 0 ≠ none ∧ foreignTo .A 24 (bound .armed 0) = false
        ∧ absorbed 24 (bound .armed 0) = false ∧ Machine.sequence 1 (bound .armed 0) = none
        ∧ sequencesHeld .A (bound .armed 0) < 12 ∧ (bound .armed 0).seq.stepTotal + 1 ≤ 128
        ∧ (bound .armed 0).seq.stepCount.get .A + 1 ≤ 96) := by decide +kernel

theorem witness_ReadingCommands :
    (∀ s ∈ [base, withSeq .keyed .armed, monitorAt .violated 2],
        takesFrame .A s = true ∧ started s = true ∧ sessionOpen .A s = true)
      ∧ (31 : Word).toNat = (31 : Channel).val ∧ 31 < (32 : Word).toNat
      ∧ (15 : Word).toNat = (15 : SeqId).val ∧ 15 < (16 : Word).toNat
      ∧ Machine.sequence 15 base = none
      ∧ Machine.sequence 0 (withSeq .keyed .armed) = some (oneStep .keyed .armed)
      ∧ (7 : Word).toNat = (7 : MonId).val ∧ 7 < (8 : Word).toNat
      ∧ (∀ s ∈ [inSession .closed, inSession .lapsed],
        takesFrame .A s = true ∧ started s = true ∧ sessionOpen .A s = false)
      ∧ 1 ≤ (8 : Word).toNat ∧ (8 : Word).toNat ≤ 8 ∧ (24 : Word).toNat + (8 : Word).toNat ≤ 32
      ∧ (31 : Channel).val = (24 : Word).toNat + 7
      ∧ 32 < (25 : Word).toNat + (8 : Word).toNat ∧ 8 < (9 : Word).toNat := by decide +kernel

/-- GET_MONITOR of monitor 0 of A: VIOLATED, TRIP, count 2 and outside count 2 (Table 11-4). -/
theorem test_get_monitor :
    (hostPort .A (after (.getMonitor .A 0 [0]) (monitorAt .violated 2))).response
      = ⟨.ok, 0, [0x3110, 24, -10, 10, 1, 0x0202]⟩ := by decide +kernel

/-- GET_SEQUENCE of a KEYED sequence of A in ARMED with pass 6 and one step (Table 11-4). -/
theorem test_get_sequence :
    (hostPort .A (after (.getSequence .A 0 [0]) (withSeq .keyed .armed))).response
      = ⟨.ok, 0, [0x0200, 0x0101, 0, 0, 6, 0, 0, 0, 1, 0, 0x0118]⟩ := by decide +kernel

theorem witness_DefineSequence :
    ∀ s ∈ [withSeq .keyed .armed],
      admitted .A s = true ∧ 1 ≤ [(0x0118 : Word)].length ∧ [(0x0118 : Word)].length ≤ 16
        ∧ kindOf 0 0 5 = some (.triggered 0 5) ∧ stepsOf [0x0118] = some [⟨24, .n1, false⟩]
        ∧ tget s.trg.owner 0 = some .A ∧ tget s.trg.bound 0 = none
        ∧ foreignTo .A 24 s = false ∧ absorbed 24 s = false
        ∧ Machine.sequence 1 s = none ∧ (∀ j : SeqId, j < 1 → Machine.sequence j s ≠ none)
        ∧ sequencesHeld .A s < 12 ∧ s.seq.stepTotal + 1 ≤ 128 ∧ s.seq.stepCount.get .A + 1 ≤ 96 := by
  decide +kernel

theorem witness_DeleteSequence :
    (∀ st ∈ [SeqState.defined, .armed],
        takesFrame .A (withSeq .keyed st) = true ∧ started (withSeq .keyed st) = true
          ∧ sessionOpen .A (withSeq .keyed st) = true
          ∧ Machine.sequence 0 (withSeq .keyed st) = some (oneStep .keyed st)
          ∧ (oneStep .keyed st).owner = .A)
      ∧ (takesFrame .B (withSeq .keyed .defined) = true ∧ started (withSeq .keyed .defined) = true
        ∧ sessionOpen .B (withSeq .keyed .defined) = true ∧ 15 < (16 : Word).toNat
        ∧ Machine.sequence 15 (withSeq .keyed .defined) = none
        ∧ Machine.sequence 0 (withSeq .keyed .defined) = some (oneStep .keyed .defined)
        ∧ (oneStep .keyed .defined).owner = otherPort .B)
      ∧ takesFrame .A (inSession .closed) = true ∧ started (inSession .closed) = true
      ∧ sessionOpen .A (inSession .closed) = false := by decide +kernel

theorem witness_OwnSequenceOnly :
    admitted .A base = true ∧ [HostCommand.enable, .run, .stop, .halt, .deleteSequence].contains .halt
      ∧ 15 < (16 : Word).toNat ∧ (15 : Word).toNat = (15 : SeqId).val
      ∧ Machine.sequence 15 base = none := by decide +kernel

theorem witness_Enable :
    (∀ s ∈ [naming 9 .keyed .defined (grantResource (.channel 9) .B base)],
        admitted .A s = true ∧ Machine.sequence 0 s
            = some { oneStep .keyed .defined with steps := [⟨9, .n1, false⟩] }
          ∧ foreignTo .A 9 s = true)
      ∧ (∀ s ∈ [withSeq .keyed .armed], admitted .A s = true
        ∧ Machine.sequence 0 s = some (oneStep .keyed .armed) ∧ foreignTo .A 24 s = false)
      ∧ (∀ s ∈ [naming 1 .keyed .defined paired], admitted .A s = true
        ∧ Machine.sequence 0 s = some { oneStep .keyed .defined with steps := [⟨1, .n1, false⟩] }
        ∧ foreignTo .A 1 s = false ∧ absorbed 1 s = true)
      ∧ ∀ k ∈ [SeqKind.keyed, .triggered 0 5, .continuous],
        admitted .A (withSeq k .defined) = true
          ∧ Machine.sequence 0 (withSeq k .defined) = some (oneStep k .defined)
          ∧ foreignTo .A 24 (withSeq k .defined) = false
          ∧ absorbed 24 (withSeq k .defined) = false := by
  decide +kernel

theorem witness_PromptRequests_run :
    (∀ n ∈ [4, 8], admitted .A (crowded n .keyed .armed) = true
        ∧ Machine.sequence 0 (crowded n .keyed .armed) = some (oneStep .keyed .armed)
        ∧ 4 ≤ ((crowded n .keyed .armed).sch.prompt.countP fun e => e.port == .A))
      ∧ (∀ k ∈ [SeqKind.keyed, .continuous], admitted .A (crowded 3 k .defined) = true
        ∧ Machine.sequence 0 (crowded 3 k .defined) = some (oneStep k .defined)
        ∧ (crowded 3 k .defined).sch.prompt.length < 8
        ∧ ((crowded 3 k .defined).sch.prompt.countP fun e => e.port == .A) < 4)
      ∧ ∀ k ∈ [SeqKind.keyed, .triggered 0 5], admitted .A (crowded 3 k .armed) = true
        ∧ Machine.sequence 0 (crowded 3 k .armed) = some (oneStep k .armed)
        ∧ (crowded 3 k .armed).sch.prompt.length < 8
        ∧ ((crowded 3 k .armed).sch.prompt.countP fun e => e.port == .A) < 4 := by decide +kernel

theorem witness_PromptRequests_convertNow :
    (admitted .A owned = true ∧ 31 < (32 : Word).toNat)
      ∧ (admitted .B owned = true ∧ (0 : Word).toNat = (0 : Channel).val
        ∧ (16 : Word).toNat = SampleCount.n16.toNat ∧ foreignTo .B 0 owned = true)
      ∧ (∀ n ∈ [4, 8], admitted .A (prompted n) = true ∧ (31 : Word).toNat = (31 : Channel).val
        ∧ foreignTo .A 31 (prompted n) = false
        ∧ 4 ≤ ((prompted n).sch.prompt.countP fun e => e.port == .A))
      ∧ (admitted .A paired = true ∧ (1 : Word).toNat = (1 : Channel).val
        ∧ foreignTo .A 1 paired = false ∧ absorbed 1 paired = true
        ∧ paired.sch.prompt.length < 8 ∧ (paired.sch.prompt.countP fun e => e.port == .A) < 4)
      ∧ (admitted .A (prompted 3) = true ∧ foreignTo .A 31 (prompted 3) = false
        ∧ absorbed 31 (prompted 3) = false ∧ (prompted 3).sch.prompt.length < 8
        ∧ ((prompted 3).sch.prompt.countP fun e => e.port == .A) < 4)
      ∧ ∀ k : Fin 5, (3 : Word).toNat
        ≠ (tget #v[SampleCount.n1, .n2, .n4, .n8, .n16] k).toNat := by decide +kernel

theorem witness_StopAndHalt :
    (∀ st ∈ [SeqState.defined, .armed, .pending, .running, .stopping],
        admitted .A (withSeq .keyed st) = true
          ∧ Machine.sequence 0 (withSeq .keyed st) = some (oneStep .keyed st)
          ∧ (oneStep .keyed st).owner = .A)
      ∧ inFlight (inBackground (.settling (backgroundStep false) 50) false false)
        = some (backgroundStep false)
      ∧ (backgroundStep false).ofSequence 0 = true ∧ (backgroundStep false).ofSequence 1 = false := by
  decide +kernel

theorem witness_DispatchOrder :
    (∀ s ∈ [(bound .pending 0).setSch { schReset .free with urgent := [⟨0, 100, some 105⟩] }],
        s.sch.activeUrgent = none ∧ s.sch.urgent = ⟨0, 100, some 105⟩ :: []
          ∧ Machine.sequence 0 s = some (oneStep (.triggered 0 5) .pending)
          ∧ (oneStep (.triggered 0 5) .pending).steps.head? = some ⟨24, .n1, false⟩
          ∧ s.cnv.state = .idle)
      ∧ ((prompted 1).sch.activeUrgent = none ∧ (prompted 1).sch.urgent = []
        ∧ (prompted 1).sch.activePrompt = none
        ∧ (prompted 1).sch.prompt = ⟨.A, .immediate 24 .n1⟩ :: []
        ∧ (prompted 1).cnv.state = .idle)
      ∧ (base.sch.activeUrgent = none ∧ base.sch.urgent = [] ∧ base.sch.activePrompt = none
        ∧ base.sch.prompt = [] ∧ (∀ id, runnable .A id base = false)
        ∧ ∀ id, runnable .B id base = false) := by decide +kernel

theorem witness_DispatchOrder_items :
    (base.cnv.state = .idle ∧ (descriptor 0 base).settle ≠ 0 ∧ (descriptor 31 base).settle = 0)
      ∧ ((urgentPass none .onTime).sch.activeUrgent = some ⟨0, .A, 100, none, .onTime⟩
        ∧ Machine.sequence 0 (urgentPass none .onTime) = some (oneStep (.triggered 0 5) .running)
        ∧ (oneStep (.triggered 0 5) .running).steps[(oneStep (.triggered 0 5) .running).index]?
          = some ⟨24, .n1, false⟩)
      ∧ (promptPass.sch.activeUrgent = none ∧ promptPass.sch.urgent = []
        ∧ promptPass.sch.activePrompt = some ⟨.A, .sequence 0⟩
        ∧ Machine.sequence 0 promptPass = some (oneStep .keyed .running)
        ∧ (oneStep .keyed .running).steps[(oneStep .keyed .running).index]?
          = some ⟨24, .n1, false⟩)
      ∧ ∀ s ∈ [(withSeq .keyed .pending).setSch
          { schReset .free with prompt := [⟨.A, .sequence 0⟩] }],
        s.sch.activeUrgent = none ∧ s.sch.urgent = [] ∧ s.sch.activePrompt = none
          ∧ s.sch.prompt = ⟨.A, .sequence 0⟩ :: []
          ∧ Machine.sequence 0 s = some (oneStep .keyed .pending)
          ∧ (oneStep .keyed .pending).steps.head? = some ⟨24, .n1, false⟩ := by decide +kernel

theorem witness_BackgroundRotation :
    ∀ s ∈ [withSeq .continuous .running,
        setSequence 0 (some { oneStep .continuous .stopping with owner := .B }) base],
      s.sch.activeUrgent = none ∧ s.sch.urgent = [] ∧ s.sch.activePrompt = none ∧ s.sch.prompt = []
        ∧ s.cnv.state = .idle ∧ s.sch.lastServed.get .A = 15 ∧ s.sch.lastServed.get .B = 15
        ∧ (runnable .A 0 s = true ∨ (runnable .B 0 s = true ∧ ∀ j, runnable .A j s = false))
        ∧ (∀ j : SeqId, j ≤ 15 ∧ 0 ≤ j) := by decide +kernel

theorem witness_BackgroundRotation_runnable :
    (∀ s ∈ [rotating .running false 63, rotating .stopping true 64],
        runnable .A 3 s = true ∧ s.sch.lastServed.get .A < 3
          ∧ ∀ j, runnable .A j s = true → s.sch.lastServed.get .A < j → 3 ≤ j)
      ∧ ∀ s ∈ [rotating .running false 64, rotating .defined true 0], runnable .A 3 s = false := by
  decide +kernel

theorem witness_UrgentRequests :
    ((inBackground (.settling (backgroundStep false) 50) false false).sch.view
        = .busy ⟨.background, .A, .step ⟨0, 0⟩, false, false⟩
        ∧ Machine.sequence 0 (inBackground (.settling (backgroundStep false) 50) false false)
          = some (oneStep .continuous .running)
        ∧ (inBackground (.settling (backgroundStep false) 50) false false).cnv.state
          = .settling (backgroundStep false) 50
        ∧ (backgroundStep false).step = some ⟨0, 0⟩)
      ∧ (inBackground (.sampling (backgroundStep false) 50) false false).cnv.state
        = .sampling (backgroundStep false) 50
      ∧ (inBackground (.sampling (backgroundStep true) 50) false true).sch.view
        = .busy ⟨.background, .A, .step ⟨0, 0⟩, false, true⟩ := by decide +kernel

theorem witness_UrgentRequests_free :
    base.sch.view = .free ∧ State.reset.sch.view = .notReady := by decide +kernel

theorem witness_SettleSamplesCuts :
    (inBackground (.settling (backgroundStep false) 50) false false).cnv.state
        = .settling (backgroundStep false) 50
      ∧ ((sampling.setCnv { sampling.cnv with state := .sampling { shot with taken := 2 } 0 }).cnv.state
          = .sampling { shot with taken := 2 } 0 ∧ ({ shot with taken := 2 }).cutPending = false
        ∧ ({ shot with taken := 2 }).taken + 1 < ({ shot with taken := 2 }).samples.toNat)
      ∧ ((inBackground (.sampling (backgroundStep true) 50) false true).cnv.state
          = .sampling (backgroundStep true) 50
        ∧ (backgroundStep true).cutPending = true ∧ (backgroundStep true).step = some ⟨0, 0⟩
        ∧ Machine.sequence 0 (inBackground (.sampling (backgroundStep true) 50) false true)
          = some (oneStep .continuous .running)) := by decide +kernel

theorem witness_SettleSamplesCuts_inputs :
    ((nominalInput .unipolar2V5 (0x7FFF : Word).toInt : Rat) < 327676
        ∧ (327676 : Rat) < nominalInput .unipolar2V5 ((0x7FFF : Word).toInt + 1))
      ∧ (nominalInput .bipolar10V 32768 : Rat) ≤ 1310720
      ∧ (-1 : Rat) ≤ nominalInput .unipolar10V (-32768)
      ∧ (22 : Channel).val = (22 : Fin 24).val ∧ (23 : Fin 24).val = (22 : Fin 24).val + 1
      ∧ (31 : Channel).val = (7 : Fin 8).val + 24 := by decide +kernel

/-- Table 1-3, note 1: a negative difference under a unipolar range clips at -32768. -/
theorem test_negative_difference :
    nominalCode .unipolar10V ((analogSource 0 .diff).input (fun n => n.val) (fun _ => 0)) = 0x8000 := by
  have p : codePosition .unipolar10V ((analogSource 0 .diff).input (fun n => n.val) (fun _ => 0))
      = -1 / 20 - 32768 := by decide +kernel
  unfold nominalCode wholeCode
  rw [p]
  split <;> decide +kernel

theorem witness_ConvertNowCompletes_busy :
    ∀ s ∈ [setMonitorAt 0 ⟨some .B, 9, 20000, 26000, 500, 1, .trip, .within, 0⟩
        (naming 24 .continuous .running sampling)],
      s.cnv.state = .sampling shot 5010 ∧ shot.cutPending = false
        ∧ shot.samples.toNat ≤ shot.taken + 1 ∧ shot.step = none
        ∧ s.sch.view = .busy ⟨.prompt, .A, .immediate 9, false, false⟩
        ∧ (-1222 : Word).toInt = max (-32768) (min 32767 ((shot.sum + (-1201 : Word).toInt)
            / (shot.samples.toNat : Int)
            * ((tget s.cnv.trim (trimIndex shot.range)).gain.toNat : Int) / 32768
          + (tget s.cnv.trim (trimIndex shot.range)).offset.toInt)) := by decide +kernel

theorem witness_ConvertNowCompletes :
    sampling.cnv.state = .sampling shot 5010 ∧ shot.cutPending = false
      ∧ shot.taken + 1 = shot.samples.toNat ∧ shot.step = none ∧ shot.port = .A
      ∧ sampling.sch.view = .busy ⟨.prompt, .A, .immediate shot.channel, false, false⟩
      ∧ sampling.sch.activeUrgent = none ∧ sampling.sch.urgent = [] ∧ sampling.sch.prompt = []
      ∧ (∀ id, Machine.sequence id sampling = none) ∧ (∀ i, (monitor i sampling).state = .off)
      ∧ queueCount .A sampling < 64 := by decide +kernel

theorem witness_PassProgress_samples :
    ∀ c ∈ [(WorkClass.urgent, SeqKind.triggered 0 5), (.prompt, .keyed), (.background, .continuous)],
      (lastSample c.1 c.2).cnv.state = .sampling (backgroundStep false) 40
        ∧ (backgroundStep false).cutPending = false
        ∧ (backgroundStep false).samples.toNat ≤ (backgroundStep false).taken + 1
        ∧ (backgroundStep false).step = some ⟨0, 0⟩
        ∧ Machine.sequence 0 (lastSample c.1 c.2) = some (oneStep c.2 .running)
        ∧ (oneStep c.2 .running).steps[0]? = some ⟨24, .n1, false⟩
        ∧ (lastSample c.1 c.2).sch.view = .busy ⟨c.1, .A, .step ⟨0, 0⟩, false, false⟩
        ∧ (7 : Word).toInt = max (-32768) (min 32767 ((0 + (7 : Word).toInt) / (1 : Int)
            * ((tget (lastSample c.1 c.2).cnv.trim 3).gain.toNat : Int) / 32768
          + (tget (lastSample c.1 c.2).cnv.trim 3).offset.toInt)) := by decide +kernel

/-- Figure 4-2, row 12: the last step of a pass leaves its record, then ARMED with SEQUENCE set and
no active urgent pass. -/
theorem test_last_step :
    (Machine.sequence 0 (after (.sampleCompletion 7) (lastSample .urgent (.triggered 0 5)))).map
        (·.state) = some .armed
      ∧ (after (.sampleCompletion 7) (lastSample .urgent (.triggered 0 5))).sch.activeUrgent = none
      ∧ (hostPort .A (after (.sampleCompletion 7)
          (lastSample .urgent (.triggered 0 5)))).flags = 0x00C
      ∧ (resultQueue .A (after (.sampleCompletion 7) (lastSample .urgent (.triggered 0 5)))).records
        = [.measurement (some ⟨0, 0, 6⟩) 24 7 40 true false false true 0 0] := by decide +kernel

theorem witness_PassProgress :
    (Machine.sequence 0 (withSeq .continuous .running) = some (oneStep .continuous .running)
        ∧ (oneStep .continuous .running).steps.length ≤ 0 + 1
        ∧ Machine.sequence 0 (withSeq .keyed .stopping) = some (oneStep .keyed .stopping))
      ∧ 0 + 1 < ({ oneStep .keyed .running with
          steps := [⟨24, .n1, false⟩, ⟨25, .n1, false⟩] }).steps.length
      ∧ (urgentPass none .undecided).sch.activeUrgent = some ⟨0, .A, 100, none, .undecided⟩
      ∧ ((105 : Time) - 100).toNat ≤ ((105 : Time) - 100).toNat
      ∧ ((105 : Time) - 100).toNat < ((106 : Time) - 100).toNat := by decide +kernel

theorem witness_TriggerSettings :
    (admitted .A owned = true ∧ (0 : Word).toNat = (0 : Fin 4).val ∧ edgeOf 2 = some .both
        ∧ tget owned.trg.owner (lineSource 0) = some .A)
      ∧ ((4 : Word).toNat = (0 : Fin 4).val + 4 ∧ tget owned.trg.owner (timerSource 0) = some .A
        ∧ (tget owned.trg.timer 0).run = .stopped ∧ 10 ≤ (0 : Word).toNat * 65536 + (10 : Word).toNat
        ∧ (15 : Word).toNat * 65536 + (16960 : Word).toNat = 1000000
        ∧ 1000000 < (15 : Word).toNat * 65536 + (16961 : Word).toNat
        ∧ (0 : Word).toNat * 65536 + (9 : Word).toNat < 10)
      ∧ (tget (timerAt (.running 7)).trg.timer 0).run = .running 7
      ∧ tget owned.trg.owner (timerSource 3) ≠ some .A ∧ 3 < (4 : Word).toNat ∧ 2 < (3 : Word).toNat
      ∧ (3 : Word).toNat < 4 ∧ 7 < (8 : Word).toNat := by decide +kernel

theorem witness_LinesAndCadences :
    owned.resetActive = false ∧ (tget owned.trg.line 0).level ≠ .high
      ∧ (tget owned.trg.line 0).edge = .rising ∧ tget owned.trg.owner (lineSource 0) ≠ none
      ∧ tget owned.trg.owner (lineSource 1) = none
      ∧ (tget (timerAt (.running 4294967295)).trg.timer 0).run = .running 4294967295 := by
  decide +kernel

theorem witness_TriggerArrivals :
    (∀ st ∈ [SeqState.defined, .armed, .pending, .running, .stopping],
        tget (bound st 0).trg.bound 0 = some 0
          ∧ Machine.sequence 0 (bound st 0) = some (oneStep (.triggered 0 5) st))
      ∧ tget (bound .armed 255).trg.bound 0 = some 0
      ∧ (Machine.sequence 0 (bound .armed 255)).map (·.misses) = some 255
      ∧ tget owned.trg.bound 0 = none := by decide +kernel

theorem witness_Append :
    (resultQueue .A (queued 63 0)).records.length < 64
      ∧ (resultQueue .A (queued 15 0)).records.length + 1 = (resultQueue .A (queued 15 0)).watermark
      ∧ (resultQueue .A (queued 63 0)).records.length + 1 ≠ (resultQueue .A (queued 63 0)).watermark
      ∧ 64 ≤ (resultQueue .A (queued 64 0)).records.length := by decide +kernel

theorem witness_ReadResults :
    takesFrame .A (queued 64 8) = true ∧ started (queued 64 8) = true
      ∧ session .A (queued 64 8) ≠ .closed ∧ (8 : Word).toNat ≤ (resultQueue .A (queued 64 8)).delivered
      ∧ (resultQueue .A (queued 7 7)).delivered < (8 : Word).toNat ∧ 8 < (9 : Word).toNat
      ∧ session .A (inSession .lapsed) ≠ .closed := by decide +kernel

theorem witness_Flush :
    takesFrame .A (queued 64 8) = true ∧ started (queued 64 8) = true
      ∧ session .A (queued 64 8) ≠ .closed ∧ 64 ≤ queueCount .A (queued 64 8)
      ∧ queueCount .A (queued 63 8) < 64 ∧ session .A (inSession .closed) = .closed := by
  decide +kernel

theorem witness_MarkAndWatermark :
    takesFrame .A (queued 64 8) = true ∧ started (queued 64 8) = true
      ∧ sessionOpen .A (queued 64 8) = true ∧ 64 ≤ queueCount .A (queued 64 8)
      ∧ queueCount .A (queued 63 8) < 64 ∧ (64 : Word).toNat ≤ 64 ∧ 64 < (65 : Word).toNat
      ∧ sessionOpen .A (inSession .lapsed) = false := by decide +kernel

theorem witness_MonitorCommands :
    (admitted .A owned = true ∧ (0 : Word).toNat = (0 : MonId).val
        ∧ (31 : Word).toNat = (31 : Channel).val ∧ actionOf 1 = some .trip
        ∧ (-32768 : Word).toInt ≤ (32767 : Word).toInt ∧ (4095 : Word).toNat ≤ 4095
        ∧ (-32768 : Word).toInt + ((4095 : Word).toNat : Int)
          ≤ (32767 : Word).toInt - ((4095 : Word).toNat : Int)
        ∧ (15 : Word).toNat ≤ 15 ∧ (monitor 0 owned).owner = some .A
        ∧ (monitor 0 owned).state = .off ∧ foreignTo .A 31 owned = false ∧ absorbed 31 owned = false)
      ∧ ((monitor 0 (monitorAt .off 0)).count = 2 ∧ foreignTo .A 24 (monitorAt .off 0) = false)
      ∧ (monitor 0 (monitorAt .violated 2)).state ≠ .off ∧ (monitor 1 owned).owner ≠ some .A
      ∧ (1 : Word).toInt - ((1 : Word).toNat : Int) < (0 : Word).toInt + ((1 : Word).toNat : Int)
      ∧ 15 < (16 : Word).toNat ∧ 8 ≤ (8 : Word).toNat ∧ 32 ≤ (32 : Word).toNat
      ∧ 4095 < (4096 : Word).toNat ∧ 2 ≤ (2 : Word).toNat := by decide +kernel

theorem witness_MonitorEvaluation :
    (Monitor.mk (some .A) 24 (-10) 10 1 2 .trip .counting 1).outside + 1
        = (Monitor.mk (some .A) 24 (-10) 10 1 2 .trip .counting 1).count
      ∧ (10 : Word).toInt < (11 : Word).toInt
      ∧ (-10 : Word).toInt + ((1 : Word).toNat : Int) ≤ (-9 : Word).toInt
      ∧ (9 : Word).toInt ≤ (10 : Word).toInt - ((1 : Word).toNat : Int) := by decide

theorem witness_MonitorViolations :
    ((monitor 0 (monitorAt .counting 1)).channel = 24
        ∧ (monitor 0 (monitorAt .counting 1)).state ≠ .violated
        ∧ ((monitor 0 (monitorAt .counting 1)).evaluate 11).state = .violated
        ∧ (monitor 0 (monitorAt .counting 1)).owner = some .A
        ∧ (monitor 0 (monitorAt .counting 1)).action = .trip)
      ∧ ∀ i, (monitor i (monitorAt .counting 1)).channel = 24 →
          (monitor i (monitorAt .counting 1)).state ≠ .violated →
          ((monitor i (monitorAt .counting 1)).evaluate 10).state ≠ .violated := by decide +kernel

theorem witness_MonitorViolations_causes :
    ∀ a ∈ [MonAction.alert, .trip],
      (∀ i : MonId, i = 0 ↔ (monitor i (armedWith a)).channel = 24
          ∧ (monitor i (armedWith a)).state ≠ .violated
          ∧ ((monitor i (armedWith a)).evaluate 11).state = .violated)
        ∧ (∀ x : Port, (x == .A) = true ↔ ∃ i : MonId, i = 0 ∧ (monitor i (armedWith a)).owner = some x)
        ∧ ∀ k : Fin 12, (if a = .trip then (0x010 : CauseSet) else 0).getLsbD k.val = true ↔
          ∃ i : MonId, k.val = i.val + 4 ∧ i = 0 ∧ (monitor i (armedWith a)).action = .trip := by
  intro a h
  refine ⟨?_, ?_, ?_⟩
  · revert a; decide +kernel
  · intro x
    cases x <;> (revert a; decide +kernel)
  · revert a; decide +kernel

/-- A monitor with action ALERT sets MONITOR and leaves the latch; one with action TRIP adds its one
cause (R114). -/
theorem test_monitor_actions :
    (evaluateMonitors 24 11 (armedWith .alert)).trp = (armedWith .alert).trp
      ∧ (hostPort .A (evaluateMonitors 24 11 (armedWith .alert))).flags = 0x010
      ∧ (evaluateMonitors 24 11 (armedWith .trip)).trp = ⟨.tripped, 0x010, .inactive, .low, .low⟩ := by
  decide +kernel

theorem witness_CausesAdded :
    twoCauses.trp.state = .tripped
      ∧ (owned.setTrp ⟨.armed, 0, .inactive, .low, .high⟩).trp.state = .armed
      ∧ takesFrame .A owned = true ∧ started owned = true ∧ sessionOpen .A owned = true
      ∧ sessionOpen .A (inSession .closed) = false ∧ owned.resetActive = false
      ∧ owned.trp.tripin = .inactive
      ∧ (owned.setTrp ⟨.tripped, 2, .active, .low, .low⟩).trp.tripin = .active := by decide +kernel

theorem witness_TripAcknowledge :
    admitted .A twoCauses = true ∧ twoCauses.trp.state = .tripped
      ∧ removableSet .A twoCauses = 0x012 ∧ twoCauses.trp.causes &&& ~~~(0x012 : CauseSet) = 0
      ∧ removableSet .B twoCauses = 0x002 ∧ twoCauses.trp.causes &&& ~~~(0x002 : CauseSet) ≠ 0
      ∧ (owned.setTrp ⟨.armed, 0, .inactive, .low, .high⟩).trp.state = .armed := by decide +kernel

theorem witness_ReadTimebase :
    takesFrame .A base = true ∧ started base = true ∧ sessionOpen .A base = true
      ∧ sessionOpen .A (inSession .closed) = false ∧ started (inSession .closed) = true
      ∧ takesFrame .A State.reset = true ∧ State.reset.cnv.state = .starting := by decide +kernel

theorem witness_ClockChecks :
    (admitted .A base = true ∧ base.tmb.check = none)
      ∧ (checking .awaitingEdge 8191).tmb.check = some ⟨.awaitingEdge, ⟨true, true⟩, 8191⟩
      ∧ (∀ n ∈ [0, 3827, 3828, 3984, 3985, 8190],
        (checking (.counting 7) n).tmb.check = some ⟨.counting 7, ⟨true, true⟩, n⟩)
      ∧ (checking (.counting 0) 0).tmb.check = some ⟨.counting 0, ⟨true, true⟩, 0⟩
      ∧ takesFrame .A State.reset = true ∧ State.reset.cnv.state = .starting
      ∧ sessionOpen .A (inSession .lapsed) = false := by decide +kernel

theorem witness_TickAndSync :
    (base.setResetActive true).resetActive = true ∧ base.resetActive = false
      ∧ dueTimers (base.setTmb { tmbReset .low with subTick := 1 }) = []
      ∧ dueTimers ((timerAt (.running 1)).setTmb { tmbReset .low with counter := 1 }) = [.cadence 0]
      ∧ dueTimers (takeTimer (.cadence 0)
        ((timerAt (.running 1)).setTmb { tmbReset .low with counter := 1 })) = []
      ∧ base.tmb.syncLevel = .low ∧ (base.setTmb (tmbReset .high)).tmb.syncLevel = .high := by
  decide +kernel

theorem witness_TickAndSync_due :
    dueTimers allDue = [.settle, .cadence 0, .warning .A, .warning .B, .lease .A, .lease .B,
        .consent, .checkLimit]
      ∧ ∀ u ∈ [base.setTmb { tmbReset .low with counter := 500000 }],
        dueTimers u = [.warning .A, .warning .B]
          ∧ dueTimers (takeTimer (.warning .A) (u.setChoice (u.choice + 1))) = [.warning .B]
          ∧ dueTimers (takeTimer (.warning .B)
            (takeTimer (.warning .A) (u.setChoice (u.choice + 1)))) = [] := by
  decide +kernel

theorem witness_StatusIdentRepeat :
    takesFrame .A State.reset = true ∧ takesFrame .A (inSession .lapsed) = true
      ∧ takesFrame .B (receiverAt (.receiving [])) = true
      ∧ takesFrame .A (receiverAt (.receiving [])) = true := by decide +kernel

theorem witness_EventsAndMask :
    takesFrame .A base = true ∧ started base = true ∧ sessionOpen .A base = true
      ∧ (2047 : Word).toNat < 2048 ∧ 2048 ≤ (2048 : Word).toNat
      ∧ sessionOpen .A (inSession .lapsed) = false := by decide +kernel

theorem witness_ViewAgreesKept : viewAgrees base ∧ step base = .next (tick base) := ⟨rfl, rfl⟩

theorem witness_CapacitiesKept :
    queuesBounded (queued 64 8) ∧ step (queued 64 8) = .next (tick (queued 64 8))
      ∧ promptBounded (prompted 4) ∧ step (prompted 4) = .next (tick (prompted 4)) := by
  refine ⟨fun x => ?_, rfl, ⟨by decide, fun x => ?_⟩, rfl⟩
  · cases x <;> (unfold queueBounded; decide +kernel)
  · cases x <;> decide +kernel

theorem witness_OwnersOpenKept :
    ownersOpen (withSeq .keyed .armed)
      ∧ step (withSeq .keyed .armed) = .next (tick (withSeq .keyed .armed)) := by
  refine ⟨⟨fun r x _ => ?_, fun id q _ => ?_⟩, rfl⟩
  · cases x <;> decide +kernel
  · cases q.owner <;> decide +kernel

theorem witness_StepsCountedKept :
    stepsCounted base ∧ step base = .next (tick base) := by
  refine ⟨⟨by decide +kernel, fun x => ?_, by decide, fun x => ?_⟩, rfl⟩ <;> cases x <;> decide +kernel

theorem witness_LinesAgreeKept :
    (latchAgrees twoCauses ∧ step twoCauses = .next (tick twoCauses))
      ∧ alertAgrees base ∧ step base = .next (tick base) := by
  refine ⟨⟨⟨by decide +kernel, by decide +kernel⟩, rfl⟩, fun x => ?_, rfl⟩
  cases x <;> decide +kernel

theorem witness_CopiesAgreeKept : copiesAgree owned ∧ step owned = .next (tick owned) := by
  refine ⟨?_, rfl⟩
  unfold copiesAgree
  decide +kernel

theorem witness_MonitorsSaneKept :
    monitorsSane (monitorAt .violated 2)
      ∧ step (monitorAt .violated 2) = .next (tick (monitorAt .violated 2)) := by
  refine ⟨⟨fun i => ?_, by decide +kernel⟩, rfl⟩
  fin_cases i
  · exact ⟨by decide +kernel, (⟨by decide, rfl⟩ : 1 ≤ 2 ∧ 2 = 2)⟩
  all_goals exact ⟨by decide +kernel, (rfl : 0 = 0)⟩

/-- `bound` with sequence 0 PENDING and its urgent request waiting. -/
def waiting : State :=
  (bound .pending 0).setSch { schReset .free with urgent := [⟨0, 100, some 105⟩] }

theorem waiting_sequence (id : SeqId) (q : Sequence) (h : Machine.sequence id waiting = some q) :
    id = 0 ∧ q = oneStep (.triggered 0 5) .pending := by
  have only : ∀ j : SeqId, Machine.sequence j waiting
      = if j = 0 then some (oneStep (.triggered 0 5) .pending) else none := by decide +kernel
  rw [only] at h
  split at h
  · exact ⟨‹_›, (Option.some.inj h).symm⟩
  · cases h

theorem waiting_channelsHeld : channelsHeld waiting := by
  refine ⟨fun id q st h _ m => ?_, fun i x h _ => absurd ?_ h⟩
  · obtain ⟨-, rfl⟩ := waiting_sequence id q h
    rw [List.mem_singleton.mp m]
    decide +kernel
  · clear h
    revert i x
    decide +kernel

theorem witness_RequestsAgreeKept :
    requestsAgree waiting ∧ step waiting = .next (tick waiting) := by
  refine ⟨⟨by decide +kernel, fun e id h _ => ?_⟩, rfl⟩
  cases h

theorem waiting_passesAgree : passesAgree waiting := by
  refine ⟨fun p h => (nomatch h), fun x id h => (nomatch h), fun m k h => (nomatch h),
    fun r k h => (nomatch h), fun id q h k => ?_⟩
  obtain ⟨-, rfl⟩ := waiting_sequence id q h
  cases k

theorem witness_RequestsAgreeKept_passes :
    viewAgrees waiting ∧ restartsSane waiting ∧ cutsAgree waiting ∧ requestsAgree waiting
      ∧ passesAgree waiting ∧ step waiting = .next (tick waiting)
      ∧ Machine.sequence 0 waiting = some (oneStep (.triggered 0 5) .pending) := by
  refine ⟨rfl, fun id q h => ?_, fun r h => (nomatch h), witness_RequestsAgreeKept.1,
    waiting_passesAgree, rfl, rfl⟩
  obtain ⟨-, rfl⟩ := waiting_sequence id q h
  exact ⟨by decide, fun _ => rfl⟩

theorem witness_ViewAgreesKept_restarts :
    viewAgrees waiting ∧ restartsSane waiting ∧ cutsAgree waiting
      ∧ step waiting = .next (tick waiting) := by
  refine ⟨rfl, fun id q h => ?_, fun r h => ?_, rfl⟩
  · obtain ⟨-, rfl⟩ := waiting_sequence id q h
    exact ⟨by decide, fun _ => rfl⟩
  · cases h

theorem waiting_bound (n : Fin 8) :
    tget waiting.trg.bound n = if n = 0 then some 0 else none := by
  revert n
  decide +kernel

theorem witness_CopiesAgreeKept_bindings :
    copiesAgree waiting ∧ bindingsAgree waiting ∧ step waiting = .next (tick waiting) := by
  refine ⟨?_, ⟨fun n id => ⟨fun h => ?_, fun ⟨q, b, h, k⟩ => ?_⟩, fun n id q h k => ?_⟩, rfl⟩
  · unfold copiesAgree
    decide +kernel
  · rw [waiting_bound] at h
    split at h
    · cases h
      exact ⟨oneStep (.triggered 0 5) .pending, 5, by decide +kernel, by simp [*, oneStep]⟩
    · cases h
  · obtain ⟨rfl, rfl⟩ := waiting_sequence id q h
    cases k
    rfl
  · obtain ⟨rfl, rfl⟩ := waiting_sequence id q k
    rw [waiting_bound] at h
    split at h
    · subst n
      decide +kernel
    · cases h

theorem witness_MonitorsSaneKept_channels :
    copiesAgree waiting ∧ monitorsSane waiting ∧ requestsAgree waiting ∧ channelsHeld waiting
      ∧ step waiting = .next (tick waiting) := by
  refine ⟨witness_CopiesAgreeKept_bindings.1, ⟨fun i => ?_, by decide +kernel⟩,
    witness_RequestsAgreeKept.1, waiting_channelsHeld, rfl⟩
  fin_cases i <;> exact ⟨by decide +kernel, (rfl : 0 = 0)⟩

end Sys2Proof.Tests
end

section
/-! ## Reports: what the result queues, the monitors, the trip latch and the host ports take

Four blocks only ever take reports of what the others do. `Reports s t` says that `t` differs from
`s` in these four alone, and that each of them kept its own law. -/

namespace Sys2Proof.Machine

open Sys2Proof.Safety

/-- The four blocks that take reports, replaced. -/
def reported (r : ResultUnit) (m : Vector Monitor 8) (p : TripLatch) (h : PerPort HostPort)
    (s : State) : State :=
  (((s.setRes r).setMon m).setTrp p).setHost h

/-- What evaluations leave of a monitor: its owner and channel, its ranges, and an OFF monitor
whole (R113). -/
structure Monitor.Evaluated (m m' : Monitor) : Prop where
  owner : m'.owner = m.owner
  channel : m'.channel = m.channel
  off : m.state = .off → m' = m
  sane : monitorSane m → monitorSane m'

theorem Monitor.Evaluated.refl (m : Monitor) : m.Evaluated m := ⟨rfl, rfl, fun _ => rfl, id⟩

theorem Monitor.Evaluated.trans {a b c : Monitor} (h : a.Evaluated b) (k : b.Evaluated c) :
    a.Evaluated c where
  owner := k.owner.trans h.owner
  channel := k.channel.trans h.channel
  off e := by rw [k.off (by rw [h.off e, e]), h.off e]
  sane e := k.sane (h.sane e)

/-- One evaluation keeps the ranges of R109: the outside count rises to the count and no further. -/
theorem monitorSane_evaluate {m : Monitor} (v : Word) (h : monitorSane m) :
    monitorSane (m.evaluate v) := by
  obtain ⟨hc, hr⟩ := h
  cases hs : m.state with
  | off => simpa [Monitor.evaluate, hs, monitorSane] using ⟨hc, by simpa [hs] using hr⟩
  | within =>
    simp only [hs] at hr
    by_cases ho : m.isOutside v = true <;> by_cases h1 : m.count = 1 <;>
      simp [Monitor.evaluate, hs, monitorSane, ho, h1] <;> omega
  | counting =>
    simp only [hs] at hr
    by_cases ho : m.isOutside v = true <;> by_cases h1 : m.outside + 1 = m.count <;>
      simp [Monitor.evaluate, hs, monitorSane, ho, h1] <;> omega
  | violated =>
    simp only [hs] at hr
    by_cases hb : m.inBand v = true <;> simp [Monitor.evaluate, hs, monitorSane, hb] <;> omega

theorem Monitor.evaluated_evaluate (m : Monitor) (v : Word) : m.Evaluated (m.evaluate v) where
  owner := by unfold Monitor.evaluate; repeat' split
              all_goals rfl
  channel := by unfold Monitor.evaluate; repeat' split
                all_goals rfl
  off h := by simp [Monitor.evaluate, h]
  sane := monitorSane_evaluate v

/-- `t` differs from `s` only in the blocks that take reports, and each of these kept its law. -/
structure Reports (s t : State) : Prop where
  frame : ∃ r m p h, t = reported r m p h s
  queues : queuesBounded s → queuesBounded t
  latch : latchAgrees s → latchAgrees t
  alert : alertAgrees s → alertAgrees t
  monitors : ∀ i, (monitor i s).Evaluated (monitor i t)

namespace Reports

theorem refl (s : State) : Reports s s :=
  ⟨⟨_, _, _, _, rfl⟩, id, id, id, fun _ => .refl _⟩

theorem trans {s t u : State} (h : Reports s t) (k : Reports t u) : Reports s u where
  frame := by
    obtain ⟨_, _, _, _, rfl⟩ := h.frame
    obtain ⟨_, _, _, _, rfl⟩ := k.frame
    exact ⟨_, _, _, _, rfl⟩
  queues := k.queues ∘ h.queues
  latch := k.latch ∘ h.latch
  alert := k.alert ∘ h.alert
  monitors i := (h.monitors i).trans (k.monitors i)

theorem ofRes {s : State} (r : ResultUnit)
    (h : queuesBounded s → queuesBounded (s.setRes r)) : Reports s (s.setRes r) :=
  ⟨⟨r, s.mon, s.trp, s.host, rfl⟩, h, id, id, fun _ => .refl _⟩

theorem ofTrp {s : State} (p : TripLatch)
    (h : latchAgrees s → latchAgrees (s.setTrp p)) : Reports s (s.setTrp p) :=
  ⟨⟨s.res, s.mon, p, s.host, rfl⟩, id, h, id, fun _ => .refl _⟩

theorem ofMon {s : State} (m : Vector Monitor 8)
    (h : ∀ i, (tget s.mon i).Evaluated (tget m i)) : Reports s (s.setMon m) :=
  ⟨⟨s.res, m, s.trp, s.host, rfl⟩, id, id, id, h⟩

theorem ofHost {s : State} (p : PerPort HostPort)
    (h : alertAgrees s → alertAgrees (s.setHost p)) : Reports s (s.setHost p) :=
  ⟨⟨s.res, s.mon, s.trp, p, rfl⟩, id, id, h, fun _ => .refl _⟩

/-- The laws of the four blocks do not see the others: a report made in one state can be made in any
state with the same four blocks. -/
theorem elsewhere {s u : State} {r : ResultUnit} {m : Vector Monitor 8} {p : TripLatch}
    {h : PerPort HostPort} (k : Reports s (reported r m p h s)) (hr : u.res = s.res)
    (hm : u.mon = s.mon) (hp : u.trp = s.trp) (hh : u.host = s.host) :
    Reports u (reported r m p h u) where
  frame := ⟨r, m, p, h, rfl⟩
  queues e := k.queues (by simpa [queuesBounded, resultQueue, hr] using e)
  latch e := k.latch (by simpa [latchAgrees, hp] using e)
  alert e := k.alert (by simpa [alertAgrees, hostPort, hh] using e)
  monitors i := by
    have e : monitor i u = monitor i s := by simp [monitor, hm]
    rw [e]
    exact k.monitors i

end Reports

/-! ### Host ports -/

/-- A port's registers may change as they like as long as its ALERT line follows (R169). -/
theorem setHostPort_reports (x : Port) (p : HostPort) (s : State)
    (h : (hostPort x s).alert = alertActive (hostPort x s).flags (hostPort x s).mask →
      p.alert = alertActive p.flags p.mask) : Reports s (setHostPort x p s) := by
  refine .ofHost _ fun e y => ?_
  change (hostPort y (setHostPort x p s)).alert
    = ((hostPort y (setHostPort x p s)).flags &&& (hostPort y (setHostPort x p s)).mask != 0)
  rw [hostPort_setHostPort]
  split
  · exact h (e x)
  · exact e y

theorem setFlagsMask_reports (x : Port) (f m : FlagSet) (s : State) :
    Reports s (setFlagsMask x f m s) := setHostPort_reports x _ s fun _ => rfl

theorem raiseFlag_reports (x : Port) (f : Flag) (s : State) : Reports s (raiseFlag x f s) :=
  setFlagsMask_reports x _ _ s

theorem fixResponse_reports (x : Port) (r : Response) (s : State) :
    Reports s (fixResponse x r s) := setHostPort_reports x _ s id

theorem endFrame_reports (x : Port) (s : State) : Reports s (endFrame x s) :=
  setHostPort_reports x _ s id

/-! ### Result queues and the snapshot table -/

theorem resultQueue_setQueue (x y : Port) (q : ResultQueue) (s : State) :
    resultQueue y (setQueue x q s) = if y = x then q else resultQueue y s := PerPort.get_set ..

/-- A queue may be replaced by any other within the bounds of R94. -/
theorem setQueue_reports (x : Port) (q : ResultQueue) (s : State)
    (h : queueBounded (resultQueue x s) → queueBounded q) : Reports s (setQueue x q s) := by
  refine .ofRes _ fun e y => ?_
  change queueBounded (resultQueue y (setQueue x q s))
  rw [resultQueue_setQueue]
  split
  · exact h (e x)
  · exact e y

/-- An append stays within the 64 records and the gap counter's 255 (R95). -/
theorem appendRecord_reports (x : Port) (mk : Nat → Record) (s : State) :
    Reports s (appendRecord x mk s) := by
  unfold appendRecord
  dsimp only
  split
  · next room =>
    have kept := setQueue_reports x { resultQueue x s with
        records := (resultQueue x s).records ++ [mk (resultQueue x s).gap], gap := 0 } s
      fun ⟨_, hd, hdc, _, hw⟩ => by
        simp only [Config.queueCapacity] at room
        refine ⟨?_, hd, ?_, Nat.zero_le _, hw⟩ <;> simp <;> omega
    split
    · exact kept.trans (raiseFlag_reports ..)
    · exact kept
  · refine (setQueue_reports x _ s fun ⟨hn, hd, hdc, _, hw⟩ => ?_).trans (raiseFlag_reports ..)
    exact ⟨hn, hd, hdc, Nat.min_le_left .., hw⟩

theorem appendNotice_reports (x : Port) (b : NoticeBody) (t : Time) (s : State) :
    Reports s (appendNotice x b t s) := appendRecord_reports x _ s

/-- The snapshot table has no part in the laws. -/
theorem setSnapshot_reports (v : Vector SnapshotEntry 32) (s : State) :
    Reports s (s.setRes { s.res with snapshot := v }) := .ofRes _ id

theorem updateSnapshot_reports (c : Channel) (v : SnapshotValue) (s : State) :
    Reports s (updateSnapshot c v s) := setSnapshot_reports ..

theorem invalidateSnapshot_reports (c : Channel) (s : State) :
    Reports s (invalidateSnapshot c s) := setSnapshot_reports ..

/-! ### The trip latch -/

theorem whenOpen_reports {x : Port} {f : State → State} (s : State) (h : Reports s (f s)) :
    Reports s (whenOpen x f s) := by
  unfold whenOpen
  split
  · exact h
  · exact .refl s

theorem noticeOpenPorts_reports (b : NoticeBody) (f : Flag) (s : State) :
    Reports s (noticeOpenPorts b f s) := by
  have tell (x : Port) (s : State) :
      Reports s (whenOpen x (fun s => raiseFlag x f (appendNotice x b s.tmb.counter s)) s) :=
    whenOpen_reports s ((appendNotice_reports ..).trans (raiseFlag_reports ..))
  exact (tell .A s).trans (tell .B _)

/-- Adding causes trips an ARMED latch; the set is then empty no more (R120). -/
theorem addCauses_reports {added : CauseSet} (h : added ≠ 0) (s : State) :
    Reports s (addCauses added s) := by
  unfold addCauses
  split
  · exact (Reports.ofTrp _ fun _ => ⟨by simpa using h, rfl⟩).trans (noticeOpenPorts_reports ..)
  · next tripped =>
    refine .ofTrp _ fun ⟨hset, hline⟩ => ⟨?_, hline⟩
    simp only [State.setTrp_trp, tripped, reduceCtorEq, false_iff]
    exact fun e => h (BitVec.or_eq_zero_iff.mp e).2

/-- Removing causes rearms the latch exactly when none stays (R123). -/
theorem removeCauses_reports (gone : CauseSet) (s : State) : Reports s (removeCauses gone s) := by
  unfold removeCauses
  split
  · exact .refl s
  · next tripped =>
    split
    · exact (Reports.ofTrp _ fun _ => ⟨by simp, rfl⟩).trans (noticeOpenPorts_reports ..)
    · next stays =>
      refine .ofTrp _ fun ⟨_, hline⟩ => ⟨?_, hline⟩
      simp only [State.setTrp_trp, tripped, reduceCtorEq, false_iff]
      exact stays

theorem setTripin_reports (v : TripinLevel) (s : State) :
    Reports s (s.setTrp { s.trp with tripin := v }) := .ofTrp _ id

theorem causeBit_ne_zero (c : Cause) : causeBit c ≠ 0 := by
  cases c with
  | startup => decide
  | ext => decide
  | host x => cases x <;> decide
  | monitor i => revert i; decide

/-! ### The monitors on a snapshot update -/

theorem raiseMonitorFlag_reports (s : State) (i : MonId) : Reports s (raiseMonitorFlag s i) := by
  unfold raiseMonitorFlag
  split
  · exact raiseFlag_reports ..
  · exact .refl s

theorem foldl_raiseMonitorFlag_reports (l : List MonId) (s : State) :
    Reports s (l.foldl raiseMonitorFlag s) := by
  induction l generalizing s with
  | nil => exact .refl s
  | cons i l ih => exact (raiseMonitorFlag_reports s i).trans (ih _)

theorem evaluateMonitors_reports (c : Channel) (v : Word) (s : State) :
    Reports s (evaluateMonitors c v s) := by
  have evaluated := Reports.ofMon (s := s)
    (tmap s.mon fun _ m => if m.channel = c then m.evaluate v else m) fun i => by
      rw [tget_tmap]
      split
      · exact Monitor.evaluated_evaluate ..
      · exact .refl _
  unfold evaluateMonitors
  dsimp only
  have told := evaluated.trans (foldl_raiseMonitorFlag_reports
    (allEights.filter fun i => entersViolated (tget s.mon i)
      (tget (tmap s.mon fun _ m => if m.channel = c then m.evaluate v else m) i)) _)
  split
  · exact told
  · next some => exact told.trans (addCauses_reports some _)

/-- The hand-off of an outcome: record, snapshot update and monitors (R92). -/
theorem handOff_reports (o : Measured) (late : Bool) (s : State) :
    Reports s (handOff o late s) := by
  unfold handOff
  dsimp only
  refine .trans ?_ ((updateSnapshot_reports ..).trans (evaluateMonitors_reports ..))
  split
  · exact .refl s
  · exact appendRecord_reports ..

end Sys2Proof.Machine
end

section
/-! ## Moves: what every step is made of

`Move s t` lists the changes that a step makes of the state, each with the facts that the checks
before it established. Every step is a chain of moves (`step_chain`), so a law that each move keeps
is kept by every step. A move is as large as the laws need: what one event changes in several blocks
together is one move. -/

namespace Sys2Proof.Machine

open Sys2Proof.Safety

/-! ### Converter, sequence manager and scheduler -/

/-- The three blocks that conversion work goes through, replaced. -/
def worked (c : Converter) (q : SeqUnit) (k : Scheduler) (s : State) : State :=
  ((s.setCnv c).setSeq q).setSch k

/-- A sequence table entry replaced. -/
def SeqUnit.put (u : SeqUnit) (id : SeqId) (v : Option Sequence) : SeqUnit :=
  { u with table := tset u.table id v }

/-- The entry that a step reference names, rewritten, if there is one. -/
def rewritten (step : Option StepRef) (f : StepRef → Sequence → Sequence) (s : State) : SeqUnit :=
  step.elim s.seq fun r => (updateSequence r.seq (f r) s).seq

/-- The converter after an abandon order to the measurement in flight, if `p` names it. -/
def relievedCnv (p : Measurement → Bool) (s : State) : Converter :=
  { s.cnv with state := if (inFlight s).any p then .idle else s.cnv.state }

/-- The view after the same order: FREE if the order reached the measurement in flight. -/
def relievedView (p : Measurement → Bool) (s : State) : View :=
  if (inFlight s).any p then .free else s.sch.view

/-- Two measurements of one producer, with no cut pending in the second that was not in the
first. -/
structure Measurement.Continues (m m' : Measurement) : Prop where
  port : m'.port = m.port
  step : m'.step = m.step
  channel : m'.channel = m.channel
  cut : m'.cutPending = true → m.cutPending = true

/-- A change of an entry that neither makes nor ends a request or a pass: it leaves what the
sequence was made with; a live sequence stays live; and it enables only over channels that may be
used (R41, R44). -/
structure EntryStep (s : State) (q q' : Sequence) : Prop where
  owner : q'.owner = q.owner
  kind : q'.kind = q.kind
  steps : q'.steps = q.steps
  pending : q'.state = .pending ↔ q.state = .pending
  restarts : q'.restarts = 0 ∨ q'.restarts = q.restarts
  live : q.state = .running ∨ q.state = .stopping → q'.state = .running ∨ q'.state = .stopping
  armed : q'.kind = .continuous → q'.state = .armed → q.state = .armed
  enabled : q'.state.enabled = true → q.state.enabled = true
    ∨ ∀ st ∈ q.steps, foreignTo q.owner st.channel s = false ∧ absorbed st.channel s = false

/-- What stands behind a start order for a step of sequence `id`, by its class (R59). -/
def Backed (cls : WorkClass) (id : SeqId) (q : Sequence) (s : State) : Prop :=
  match cls with
  | .urgent => ∃ p, s.sch.activeUrgent = some p ∧ p.seq = id
  | .prompt => ∃ x, s.sch.activePrompt = some ⟨x, .sequence id⟩
  | .background => q.candidate = true

/-- The changes that conversion work makes: `Work s c q k` when, from `s`, the converter becomes
`c`, the sequence manager `q` and the scheduler `k`. -/
inductive Work (s : State) : Converter → SeqUnit → Scheduler → Prop where
  /-- The converter stays as it is or goes on with the measurement in flight (R11, R23, R24). -/
  | progress (c : Converter)
      (h : c.state = s.cnv.state ∨ ∃ m m', inFlight s = some m
        ∧ inFlight (s.setCnv c) = some m' ∧ m.Continues m') :
      Work s c s.seq s.sch
  /-- The trim load ends (R19). -/
  | trimLoaded (c : Converter) (hs : s.cnv.state = .starting) (hc : c.state = .idle) :
      Work s c s.seq { s.sch with view := .free }
  /-- An entry changes beside requests and passes. -/
  | entry (id : SeqId) (q q' : Sequence) (hq : sequence id s = some q) (h : EntryStep s q q') :
      Work s s.cnv (s.seq.put id (some q')) s.sch
  /-- STOP of a PENDING sequence (R46, R73). -/
  | stopPending (id : SeqId) (q : Sequence) (hq : sequence id s = some q)
      (hp : q.state = .pending) :
      Work s s.cnv (s.seq.put id (some q.toDefined)) (removeRequests id s).sch
  /-- HALT with the abandon order (R48, R74). -/
  | halt (id : SeqId) (q : Sequence) (hq : sequence id s = some q) :
      Work s (relievedCnv (fun m => m.ofSequence id) s)
        (s.seq.put id (some { q.toDefined with restarts := 0 }))
        { (withdraw id q.state s).sch with view := relievedView (fun m => m.ofSequence id) s }
  /-- RUN (R45). -/
  | run (id : SeqId) (q : Sequence) (hq : sequence id s = some q) (ha : q.state = .armed)
      (hk : q.kind ≠ .continuous) (hf : promptFull q.owner s = false) :
      Work s s.cnv (s.seq.put id (some { q with state := .pending }))
        { s.sch with prompt := s.sch.prompt ++ [⟨q.owner, .sequence id⟩] }
  /-- CONVERT_NOW (R71). -/
  | requestNow (x : Port) (c : Channel) (n : SampleCount) (hf : promptFull x s = false) :
      Work s s.cnv s.seq { s.sch with prompt := s.sch.prompt ++ [⟨x, .immediate c n⟩] }
  /-- A trigger arrival at an ARMED sequence (R84). -/
  | arrive (e : UrgentEntry) (q : Sequence) (hq : sequence e.seq s = some q)
      (ha : q.state = .armed) :
      Work s s.cnv (s.seq.put e.seq (some { q with state := .pending, misses := 0 }))
        { s.sch with urgent := s.sch.urgent ++ [e] }
  /-- The head of the urgent queue names a FREE entry. -/
  | drop (e : UrgentEntry) (rest : List UrgentEntry) (hu : s.sch.urgent = e :: rest)
      (hn : sequence e.seq s = none) : Work s s.cnv s.seq { s.sch with urgent := rest }
  /-- The head of the urgent queue becomes the active urgent pass (R60). -/
  | popUrgent (e : UrgentEntry) (rest : List UrgentEntry) (q : Sequence) (hv : s.sch.view = .free)
      (hu : s.sch.urgent = e :: rest) (hq : sequence e.seq s = some q) :
      Work s s.cnv (s.seq.put e.seq (some q.startPass))
        { s.sch with
          urgent := rest
          activeUrgent := some ⟨e.seq, q.owner, e.arrival, e.deadline, .undecided⟩ }
  /-- The head of the prompt queue becomes the active prompt pass (R60). -/
  | popPrompt (e : PromptEntry) (rest : List PromptEntry) (hv : s.sch.view = .free)
      (hp : s.sch.prompt = e :: rest) :
      Work s s.cnv (startPromptPass e s).seq
        { s.sch with prompt := rest, activePrompt := some e }
  /-- The scheduler's own bookkeeping: the rotation (R61) and a judgement (R69). -/
  | bookkeep (a : Option UrgentPass) (np : Port) (ls : PerPort SeqId)
      (h : a.map (fun p => (p.seq, p.owner))
        = s.sch.activeUrgent.map fun p => (p.seq, p.owner)) :
      Work s s.cnv s.seq { s.sch with activeUrgent := a, nextPort := np, lastServed := ls }
  /-- A cut is ordered (R64). -/
  | orderCut (r : Service) (hv : s.sch.view = .busy r) :
      Work s s.cnv s.seq { s.sch with view := .busy { r with cutOrdered := true } }
  /-- A cut becomes pending in SAMPLING (R27). -/
  | pendCut (m : Measurement) (t : Time) (r : Service) (hm : s.cnv.state = .sampling m t)
      (hv : s.sch.view = .busy r) (hb : r.cls = .background) (hs : r.shielded = false) :
      Work s { s.cnv with state := .sampling { m with cutPending := true } t } s.seq s.sch
  /-- The measurement in flight is cut (R27, R28, R39). -/
  | cut (m : Measurement) (hm : inFlight s = some m)
      (hc : m.cutPending = true
        ∨ ∃ r, s.sch.view = .busy r ∧ r.cls = .background ∧ r.shielded = false) :
      Work s { s.cnv with state := .idle }
        (rewritten m.step (fun _ q => { q with restarts := q.restarts + 1 }) s)
        { s.sch with view := .free }
  /-- The measurement in flight completes: its sequence moves on, and a pass that has ended becomes
  absent (R38, R63). -/
  | complete (m : Measurement) (o : Measured) (hm : inFlight s = some m) (ho : o.step = m.step) :
      Work s { s.cnv with state := .idle } (rewritten o.step (fun r q => q.afterStep r.index) s)
        { (passUpkeep (serviceClass s) (endsPass o s) s).sch with view := .free }
  /-- A step of a sequence is started (R22, R53, R59). -/
  | startStep (cls : WorkClass) (id : SeqId) (q : Sequence) (st : SeqStep)
      (hv : s.sch.view = .free) (hq : sequence id s = some q) (hb : Backed cls id q s) :
      Work s (converterStart q.owner (some ⟨id, q.index⟩) st.channel st.samples s).cnv s.seq
        { s.sch with view := .busy ⟨cls, q.owner, .step ⟨id, q.index⟩,
            cls == .background && q.restarts == 3, false⟩ }
  /-- A CONVERT_NOW measurement is started (R72). -/
  | startNow (x : Port) (c : Channel) (n : SampleCount) (hv : s.sch.view = .free) :
      Work s (converterStart x none c n s).cnv s.seq
        { s.sch with view := .busy ⟨.prompt, x, .immediate c, false, false⟩ }

/-! ### Resources, sessions and resets -/

/-- The descriptors after resource `r` passes to `o`. In this and the two blocks below, a grant
writes the owner copy, and a release returns the resource to its defaults (R13, R14, R76, R87,
R117). -/
def ownedCfe (r : Resource) (o : Option Port) (t : Vector Descriptor 24) : Vector Descriptor 24 :=
  match r with
  | .channel c =>
    tset t c (o.elim defaultDescriptor fun x => { tget t c with owner := some x })
  | .monitor _ => t
  | .source _ => t

/-- The monitors after resource `r` passes to `o`. -/
def ownedMon (r : Resource) (o : Option Port) (t : Vector Monitor 8) : Vector Monitor 8 :=
  match r with
  | .channel _ => t
  | .monitor i => tset t i (o.elim releasedMonitor fun x => { tget t i with owner := some x })
  | .source _ => t

/-- The trigger unit after resource `r` passes to `o`. -/
def ownedTrg (r : Resource) (o : Option Port) (t : TriggerUnit) : TriggerUnit :=
  match r with
  | .channel _ => t
  | .monitor _ => t
  | .source n =>
    { o.elim (releaseSourceSettings n t) (fun _ => t) with owner := tset t.owner n o }

/-- Resource `r` passes to `o` in the claim table and in the block that holds it. -/
def reowned (r : Resource) (o : Option Port) (s : State) : State :=
  (((setClaims (s.ses.claims.setOwner r o) s).setCfe (ownedCfe r o s.cfe)).setMon
    (ownedMon r o s.mon)).setTrg (ownedTrg r o s.trg)

/-- A measurement that `p` names is abandoned, and the view is FREE. -/
def relieved (p : Measurement → Bool) (s : State) : State :=
  (s.setCnv (relievedCnv p s)).setSch { s.sch with view := relievedView p s }

/-- `t` is `s` with the session of `x` ended at `v` and with the shares of R138 that the laws speak
of: those of the scheduler, the sequence manager, the blocks that hold resources, the claim table
and the converter. -/
structure TornDown (x : Port) (v : Session) (s t : State) : Prop where
  res : t.res = s.res
  trp : t.trp = s.trp
  host : t.host = s.host
  cnv : t.cnv = relievedCnv (fun m => m.port == x) s
  view : t.sch.view = relievedView (fun m => m.port == x) s
  urgent : t.sch.urgent
    = s.sch.urgent.filter fun e => !(sequence e.seq s).any fun q => q.owner == x
  prompt : t.sch.prompt = s.sch.prompt.filter fun e => e.port != x
  activeUrgent : t.sch.activeUrgent = s.sch.activeUrgent.filter fun p => p.owner != x
  activePrompt : t.sch.activePrompt = s.sch.activePrompt.filter fun p => p.port != x
  sequence (id : SeqId) : sequence id t = (sequence id s).filter fun q => q.owner != x
  stepTotal : t.seq.stepTotal = s.seq.stepTotal - stepsHeld x s
  stepCount : t.seq.stepCount = s.seq.stepCount.set x 0
  cfe (c : ExtChannel) : tget t.cfe c
    = if tget s.ses.claims.channel c = some x then defaultDescriptor else tget s.cfe c
  mon (i : MonId) : monitor i t
    = if tget s.ses.claims.monitor i = some x then releasedMonitor else monitor i s
  owner (n : SourceId) : tget t.trg.owner n
    = if tget s.ses.claims.source n = some x then none else tget s.trg.owner n
  bound (n : SourceId) : tget t.trg.bound n
    = (tget s.trg.bound n).filter fun id => !(Machine.sequence id s).any fun q => q.owner == x
  claim (r : Resource) : claimOwner r t
    = if claimOwner r s = some x then none else claimOwner r s
  session (y : Port) : session y t = if y = x then v else session y s

/-- The blocks hold their reset values, and the view is that of the converter (R16, R36, R54, R88,
R94, R109, R126, R135). -/
structure Fresh (s : State) : Prop where
  cfe : s.cfe = cfeReset
  seq : s.seq = seqReset
  sch : (s.sch = schReset .notReady ∧ s.cnv.state = .starting)
    ∨ (s.sch = schReset .free ∧ s.cnv.state = .idle)
  trgOwner : s.trg.owner = Vector.replicate 8 none
  trgBound : s.trg.bound = Vector.replicate 8 none
  res : s.res = resReset
  mon : s.mon = monReset
  ses : s.ses = sesReset

/-- The changes that steps are made of. -/
inductive Move (s : State) : State → Prop where
  | report {r : ResultUnit} {m : Vector Monitor 8} {p : TripLatch} {h : PerPort HostPort}
      (k : Reports s (reported r m p h s)) : Move s (reported r m p h s)
  | work {c : Converter} {q : SeqUnit} {k : Scheduler} (h : Work s c q k) : Move s (worked c q k s)
  /-- The timebase, the RESETN line, the choice counter and the queue of commands. -/
  | clock (v : Timebase) (b : Bool) (n : Nat) (l : List Instr) :
      Move s ((((s.setTmb v).setResetActive b).setChoice n).setPending l)
  | consent (v : Option Consent) : Move s (setConsent v s)
  /-- A session is OPEN from here on (R127 to R130). -/
  | lease (x : Port) (l : Lease) : Move s (setSession x (.opened l) s)
  /-- Edges, reference levels and cadence timers (R78 to R83). -/
  | lines (l : Vector LineSource 4) (t : Vector CadenceTimer 4) :
      Move s (s.setTrg { s.trg with line := l, timer := t })
  /-- SET_CHANNEL (R9, R10). -/
  | write (x : Port) (c : ExtChannel) (range : Range) (mode : InputMode) (settle : BitVec 10)
      (ho : (tget s.cfe c).owner = some x)
      (hd : mode = .diff → ∃ o, oddPartner c = some o ∧ (tget s.cfe o).owner = some x
        ∧ ((tget s.cfe c).mode = .single → partnerInUse x o s = false)) :
      Move s (s.setCfe (tset s.cfe c
        { tget s.cfe c with range := range, mode := mode, settle := settle }))
  /-- CLAIM (R136). -/
  | grant (r : Resource) (x : Port) (hn : claimOwner r s = none)
      (hu : inUseAgainstClaim x r s = false) (ho : sessionOpen x s = true) :
      Move s (reowned r (some x) s)
  /-- RELEASE (R137). -/
  | release (r : Resource) (x : Port) (hx : claimOwner r s = some x)
      (hu : inUseAgainstRelease x r s = false) : Move s (reowned r none s)
  /-- SET_MONITOR, MONITOR_ON and MONITOR_OFF (R110 to R112). -/
  | monitor (x : Port) (i : MonId) (m : Monitor) (ho : (monitor i s).owner = some x)
      (hm : m.owner = some x) (hs : monitorSane (monitor i s) → monitorSane m)
      (hon : m.state ≠ .off →
        foreignTo x m.channel s = false ∧ absorbed m.channel s = false) :
      Move s (setMonitorAt i m s)
  /-- DEFINE_SEQUENCE (R42, R43). -/
  | define (x : Port) (id : SeqId) (k : SeqKind) (steps : List SeqStep)
      (hid : sequence id s = none) (ho : sourceOwned x k s = true) (hb : sourceBound k s = false)
      (hr : noRoom x steps.length s = false) (hx : sessionOpen x s = true) :
      Move s ((s.setSeq
        { table := tset s.seq.table id (some ⟨x, k, steps, .defined, 0, 0, 0, 0⟩)
          stepTotal := s.seq.stepTotal + steps.length
          stepCount := s.seq.stepCount.set x (s.seq.stepCount.get x + steps.length) }).setTrg
        (bindKind k id s).trg)
  /-- DELETE_SEQUENCE (R50). -/
  | delete (id : SeqId) (q : Sequence) (hq : sequence id s = some q) (hd : q.state = .defined) :
      Move s ((s.setSeq
        { table := tset s.seq.table id none
          stepTotal := s.seq.stepTotal - q.steps.length
          stepCount :=
            s.seq.stepCount.set q.owner (s.seq.stepCount.get q.owner - q.steps.length) }).setTrg
        (unbindKind q.kind s).trg)
  /-- The end of a session (R131, R132, R138). -/
  | teardown {x : Port} {v : Session} {t : State} (h : TornDown x v s t) : Move s t
  /-- A reset (R142, R16). -/
  | reset {t : State} (h : Fresh t) (hl : latchAgrees s → latchAgrees t) (ha : alertAgrees t) :
      Move s t

/-- One move after another. -/
abbrev Chain : State → State → Prop := Relation.ReflTransGen Move

/-- A law that every move keeps is kept by every chain of moves. -/
theorem Chain.keeps {P : State → Prop} (h : ∀ s t, Move s t → P s → P t) {s t : State}
    (c : Chain s t) (hs : P s) : P t := by
  induction c with
  | refl => exact hs
  | tail _ m ih => exact h _ _ m ih

theorem Move.chain {s t : State} (h : Move s t) : Chain s t := .single h

theorem Work.chain {s : State} {c : Converter} {q : SeqUnit} {k : Scheduler} (h : Work s c q k) :
    Chain s (worked c q k s) := (Move.work h).chain

theorem Reports.chain {s t : State} (h : Reports s t) : Chain s t := by
  obtain ⟨_, _, _, _, rfl⟩ := h.frame
  exact (Move.report h).chain

/-! ### Orders of the scheduler -/

theorem converterStart_setSch (p : Port) (r : Option StepRef) (c : Channel) (n : SampleCount)
    (k : Scheduler) (s : State) :
    converterStart p r c n (s.setSch k)
      = (s.setCnv (converterStart p r c n s).cnv).setSch k := by
  unfold converterStart
  rw [State.setSch_cnv]
  cases s.cnv.state <;> rfl

/-- A start order changes the view and the converter. -/
theorem startMeasurement_eq (cls : WorkClass) (p : Port) (i : WorkItem) (r : Option StepRef)
    (c : Channel) (n : SampleCount) (b : Bool) (s : State) :
    startMeasurement cls p i r c n b s = worked (converterStart p r c n s).cnv s.seq
      { s.sch with view := .busy ⟨cls, p, i, b, false⟩ } s :=
  converterStart_setSch ..

theorem startSequenceStep_chain {cls : WorkClass} {id : SeqId} {s : State}
    (hv : s.sch.view = .free) (hb : ∀ q, sequence id s = some q → Backed cls id q s) :
    Chain s (startSequenceStep cls id s) := by
  unfold startSequenceStep
  split
  · exact .refl
  · next q hq =>
    split
    · exact .refl
    · next st _ =>
      rw [startMeasurement_eq]
      exact (Work.startStep cls id q st hv hq (hb q hq)).chain

theorem startPromptWork_chain {p : PromptEntry} {s : State} (hv : s.sch.view = .free)
    (ha : s.sch.activePrompt = some p) : Chain s (startPromptWork p s) := by
  obtain ⟨x, item⟩ := p
  cases item with
  | sequence id => exact startSequenceStep_chain hv fun _ _ => ⟨x, ha⟩
  | immediate c n =>
    change Chain s (startMeasurement .prompt x (.immediate c) none c n false s)
    rw [startMeasurement_eq]
    exact (Work.startNow x c n hv).chain

/-- The rotation only picks candidates (R61). -/
theorem candidate_of_runnable {p : Port} {id : SeqId} {s : State} {q : Sequence}
    (h : runnable p id s = true) (hq : sequence id s = some q) : q.candidate = true := by
  unfold runnable at h
  rw [hq] at h
  simp only [Bool.and_eq_true] at h
  exact h.1.2

theorem runnable_of_rotationPick {p : Port} {id : SeqId} {s : State}
    (h : rotationPick p s = some id) : runnable p id s = true := by
  unfold rotationPick at h
  dsimp only at h
  split at h
  · next j hj =>
    cases h
    exact (List.mem_filter.mp (List.mem_of_find?_eq_some hj)).2
  · exact (List.mem_filter.mp (List.mem_of_head? h)).2

theorem serveBackground_chain {p : Port} {id : SeqId} {s : State} (hv : s.sch.view = .free)
    (hr : rotationPick p s = some id) : Chain s (serveBackground p id s) :=
  (Work.bookkeep (s := s) s.sch.activeUrgent (otherPort p) (s.sch.lastServed.set p id)
    rfl).chain.trans
      (startSequenceStep_chain hv fun _ hq =>
        candidate_of_runnable (runnable_of_rotationPick hr) hq)

theorem rotate_chain {s : State} (hv : s.sch.view = .free) : Chain s (rotate s) := by
  unfold rotate
  split
  · next h => exact serveBackground_chain hv h
  · split
    · next h => exact serveBackground_chain hv h
    · exact .refl

theorem startPromptPass_setSch (e : PromptEntry) (k : Scheduler) (s : State) :
    startPromptPass e (s.setSch k) = worked s.cnv (startPromptPass e s).seq k s := by
  obtain ⟨x, item⟩ := e
  cases item <;> rfl

/-- A dispatch is made with the view FREE: the item that waited becomes the active pass, and its
measurement starts (R59, R60). -/
theorem dispatch_chain {s : State} (hv : s.sch.view = .free) : Chain s (dispatch s) := by
  unfold dispatch
  split
  · next p hp => exact startSequenceStep_chain hv fun _ _ => ⟨p, hp, rfl⟩
  · split
    · next e rest hu =>
      unfold dispatchUrgentHead
      split
      · next hn => exact (Work.drop e rest hu hn).chain
      · next q hq =>
        refine (Work.popUrgent e rest q hv hu hq).chain.trans ?_
        have started := startSequenceStep_chain (cls := .urgent) (id := e.seq)
          (s := worked s.cnv (s.seq.put e.seq (some q.startPass))
            { s.sch with
              urgent := rest
              activeUrgent := some ⟨e.seq, q.owner, e.arrival, e.deadline, .undecided⟩ } s)
          hv fun _ _ => ⟨_, rfl, rfl⟩
        convert started using 2
        change setSequence e.seq ((sequence e.seq s).map _) _ = _
        rw [hq]
        rfl
    · split
      · next p hp => exact startPromptWork_chain hv hp
      · split
        · next e rest hp =>
          unfold dispatchPromptHead
          rw [startPromptPass_setSch]
          exact (Work.popPrompt e rest hv hp).chain.trans (startPromptWork_chain hv rfl)
        · exact rotate_chain hv

theorem dispatchIfFree_chain (s : State) : Chain s (dispatchIfFree s) := by
  unfold dispatchIfFree
  split
  · next hv => exact dispatch_chain hv
  · exact .refl

theorem reportFall_chain (a b : Nat) (s : State) : Chain s (reportFall a b s) := by
  unfold reportFall
  split
  · exact dispatchIfFree_chain s
  · exact .refl

/-! ### Cuts, requests and abandon orders -/

/-- The restart of the producer of `m`, and the converter and the view free. -/
theorem cutReport_eq (m : Measurement) (s : State) :
    cutReport m s = dispatch (worked s.cnv
      (rewritten m.step (fun _ q => { q with restarts := q.restarts + 1 }) s)
      { s.sch with view := .free } s) := by
  unfold cutReport
  cases m.step <;> rfl

/-- A cut of the measurement in flight, from SETTLING or after its last sample (R27, R28). -/
theorem cutReport_chain {s : State} {m m' : Measurement} (hm : inFlight s = some m)
    (hc : m.cutPending = true
      ∨ ∃ r, s.sch.view = .busy r ∧ r.cls = .background ∧ r.shielded = false)
    (hs : m'.step = m.step) : Chain s (cutReport m' (converterIdle s)) := by
  rw [cutReport_eq, hs]
  have rest : rewritten m.step (fun _ q => { q with restarts := q.restarts + 1 }) (converterIdle s)
      = rewritten m.step (fun _ q => { q with restarts := q.restarts + 1 }) s := by
    cases m.step <;> rfl
  rw [rest]
  exact (Work.cut m hm hc).chain.trans (dispatch_chain rfl)

theorem converterCut_chain {s : State} {r : Service} (hv : s.sch.view = .busy r)
    (hb : r.cls = .background) (hs : r.shielded = false) : Chain s (converterCut s) := by
  unfold converterCut
  split
  · next m t hm =>
    exact cutReport_chain (m := m) (by simp [inFlight, hm]) (.inr ⟨r, hv, hb, hs⟩) rfl
  · next m t hm => exact (Work.pendCut m t r hm hv hb hs).chain
  · exact .refl
  · exact .refl

theorem considerUrgent_chain (s : State) : Chain s (considerUrgent s) := by
  unfold considerUrgent
  split
  · next hv => exact dispatch_chain hv
  · next r hv =>
    split
    · next hc =>
      simp only [Service.cuttable, Bool.and_eq_true, beq_iff_eq, Bool.not_eq_true'] at hc
      obtain ⟨⟨hb, hs⟩, _⟩ := hc
      exact (Work.orderCut r hv).chain.trans
        (converterCut_chain (r := { r with cutOrdered := true }) rfl hb hs)
    · exact .refl
  · exact .refl

/-- An abandon order reaches the measurement in flight if the order names it; the dispatch that
follows starts from the FREE view. -/
theorem abandonWhere_eq (p : Measurement → Bool) (s : State) :
    abandonWhere p s = if (inFlight s).any p then dispatch (relieved p s) else relieved p s := by
  unfold abandonWhere releaseConverter converterIdle relieved relievedCnv relievedView
  cases h : inFlight s with
  | none => rfl
  | some m =>
    cases hp : p m with
    | false =>
      simp [hp]
      rfl
    | true => simp [hp]

theorem relieved_abandonWhere_chain (p : Measurement → Bool) (s : State) :
    Chain (relieved p s) (abandonWhere p s) := by
  rw [abandonWhere_eq]
  split
  · next h => exact dispatch_chain (by simp [relieved, relievedView, h])
  · exact .refl

/-! ### Outcomes -/

/-- A judgement changes the judgement of the active urgent pass, and perhaps a flag (R69). -/
theorem judgeUrgent_eq (t : Time) (s : State) :
    ∃ a, a.map (fun p => (p.seq, p.owner)) = s.sch.activeUrgent.map (fun p => (p.seq, p.owner))
      ∧ Reports (s.setSch { s.sch with activeUrgent := a }) (judgeUrgent t s) := by
  unfold judgeUrgent
  split
  · next h => exact ⟨s.sch.activeUrgent, rfl, .refl _⟩
  · next p h =>
    dsimp only
    split
    · refine ⟨some { p with judgement := judgePass p t }, by simp [h], ?_⟩
      split
      · exact raiseFlag_reports ..
      · exact .refl _
    · exact ⟨s.sch.activeUrgent, rfl, .refl _⟩

/-- A step report rewrites the entry and perhaps raises a flag (R38). -/
theorem stepCompleted_reports (r : StepRef) (s : State) :
    Reports (updateSequence r.seq (fun q => q.afterStep r.index) s) (stepCompleted r s) := by
  unfold stepCompleted updateSequence
  split
  · next h =>
    rw [h, Option.map_none, ← h]
    have same : setSequence r.seq (sequence r.seq s) s = s := by
      change s.setSeq { s.seq with table := tset s.seq.table r.seq (tget s.seq.table r.seq) } = s
      rw [tset_tget]
      rfl
    rw [same]
    exact .refl s
  · next q h =>
    rw [h]
    dsimp only
    split
    · exact raiseFlag_reports ..
    · exact .refl _

end Sys2Proof.Machine
end

section
/-! ## Every operation is a chain of moves -/

namespace Sys2Proof.Machine

open Sys2Proof.Safety

theorem State.setTmb_chain (v : Timebase) (s : State) : Chain s (s.setTmb v) :=
  (Move.clock v s.resetActive s.choice s.pending).chain

/-- The converter goes on with the measurement in flight. -/
theorem State.setCnv_chain {s : State} (c : Converter) (h : c.state = s.cnv.state
      ∨ ∃ m m', inFlight s = some m ∧ inFlight (s.setCnv c) = some m' ∧ m.Continues m') :
    Chain s (s.setCnv c) := (Work.progress c h).chain

theorem State.setPending_chain (v : List Instr) (s : State) : Chain s (s.setPending v) :=
  (Move.clock s.tmb s.resetActive s.choice v).chain

theorem State.setChoice_chain (v : Nat) (s : State) : Chain s (s.setChoice v) :=
  (Move.clock s.tmb s.resetActive v s.pending).chain

/-! ### Completions (R63) -/

theorem releaseConverter_chain (s : State) :
    Chain (s.setSch { s.sch with view := .free }) (releaseConverter s) := dispatch_chain rfl

/-- Pass upkeep reads the scheduler alone. -/
theorem passUpkeep_eq (cls : Option WorkClass) (b : Bool) {s t : State} (h : s.sch = t.sch) :
    passUpkeep cls b s = s.setSch (passUpkeep cls b t).sch := by
  have same : s.setSch t.sch = s := by rw [← h]; rfl
  unfold passUpkeep
  rw [h]
  repeat' split
  all_goals first | rfl | exact same.symm

theorem rewritten_congr (step : Option StepRef) (f : StepRef → Sequence → Sequence) {s t : State}
    (h : s.seq = t.seq) : rewritten step f s = rewritten step f t := by
  cases step with
  | none => exact h
  | some r => simp [rewritten, updateSequence, setSequence, sequence, h]

theorem endsPass_congr (o : Measured) {s t : State} (h : s.seq = t.seq) :
    endsPass o s = endsPass o t := by
  unfold endsPass sequence
  rw [h]

/-- An outcome judged, where it is an URGENT measurement's (R69). -/
def judgedFor (o : Measured) (s : State) : State :=
  if serviceClass s = some .urgent then judgeUrgent o.stamp s else s

/-- An outcome judged, handed off and reported to the sequence manager (R63). -/
def concluded (o : Measured) (s : State) : State :=
  let s2 := handOff o (serviceClass s == some .urgent && passLate (judgedFor o s)) (judgedFor o s)
  o.step.elim s2 fun r => stepCompleted r s2

theorem takeOutcome_eq (o : Measured) (s : State) :
    takeOutcome o s = releaseConverter
      (passUpkeep (serviceClass s) (endsPass o (judgedFor o s)) (concluded o s)) := by
  unfold takeOutcome concluded judgedFor
  cases o.step <;> rfl

/-- The active urgent pass after a judgement. -/
theorem judgedFor_reports (o : Measured) (s : State) :
    ∃ a, a.map (fun p => (p.seq, p.owner)) = s.sch.activeUrgent.map (fun p => (p.seq, p.owner))
      ∧ Reports (s.setSch { s.sch with activeUrgent := a }) (judgedFor o s) := by
  unfold judgedFor
  split
  · exact judgeUrgent_eq o.stamp s
  · exact ⟨s.sch.activeUrgent, rfl, .refl _⟩

theorem judgedFor_seq (o : Measured) (s : State) : (judgedFor o s).seq = s.seq := by
  obtain ⟨_, _, told⟩ := judgedFor_reports o s
  obtain ⟨_, _, _, _, e⟩ := told.frame
  rw [e]
  rfl

/-- Up to pass upkeep a completion rewrites the entry of its step, changes the active urgent pass in
its judgement alone, and reports. -/
theorem concluded_reports (o : Measured) (s : State) :
    ∃ a, a.map (fun p => (p.seq, p.owner)) = s.sch.activeUrgent.map (fun p => (p.seq, p.owner))
      ∧ Reports ((s.setSch { s.sch with activeUrgent := a }).setSeq
          (rewritten o.step (fun r q => q.afterStep r.index) s)) (concluded o s) := by
  obtain ⟨a, ha, judged⟩ := judgedFor_reports o s
  refine ⟨a, ha, ?_⟩
  have told := judged.trans (handOff_reports o
    (serviceClass s == some .urgent && passLate (judgedFor o s)) (judgedFor o s))
  obtain ⟨r, m, p, h, e⟩ := told.frame
  unfold concluded
  dsimp only
  rw [e] at told ⊢
  refine (told.elsewhere (u := (s.setSch { s.sch with activeUrgent := a }).setSeq
    (rewritten o.step (fun r q => q.afterStep r.index) s)) rfl rfl rfl rfl).trans ?_
  cases o.step with
  | none => exact .refl _
  | some k =>
    exact stepCompleted_reports k (reported r m p h (s.setSch { s.sch with activeUrgent := a }))

/-- The scheduler takes an outcome of the measurement in flight. -/
theorem takeOutcome_chain {s : State} {m : Measurement} {o : Measured} (hm : inFlight s = some m)
    (ho : o.step = m.step) : Chain s (takeOutcome o (converterIdle s)) := by
  obtain ⟨a, ha, told⟩ := concluded_reports o (converterIdle s)
  obtain ⟨r, n, p, h, e⟩ := told.frame
  rw [takeOutcome_eq, endsPass_congr o (judgedFor_seq o _)]
  rw [e] at told ⊢
  generalize hB : s.setSch { s.sch with activeUrgent := a } = B
  have judged : Chain s B := by
    rw [← hB]
    exact (Work.bookkeep (s := s) a s.sch.nextPort s.sch.lastServed ha).chain
  have handed : Chain B (reported r n p h B) := by
    refine (told.elsewhere (u := B) ?_ ?_ ?_ ?_).chain <;> rw [← hB] <;> rfl
  have completed : Chain (reported r n p h B) _ :=
    (Work.complete (s := reported r n p h B) m o (by rw [← hB]; exact hm) ho).chain
  have entry : rewritten o.step (fun r q => q.afterStep r.index) (reported r n p h B)
      = rewritten o.step (fun r q => q.afterStep r.index) (converterIdle s) :=
    rewritten_congr _ _ (by rw [← hB]; rfl)
  rw [entry] at completed
  have cls : serviceClass (converterIdle s) = serviceClass (reported r n p h B) := by
    rw [← hB]; rfl
  rw [cls, endsPass_congr o (t := reported r n p h B) (by rw [← hB]; rfl),
    passUpkeep_eq _ _ (t := reported r n p h B) (by rw [← hB]; rfl)]
  subst hB
  refine .trans ?_ (releaseConverter_chain _)
  exact judged.trans (handed.trans completed)

/-! ### Resources -/

theorem grantResource_eq (r : Resource) (x : Port) (s : State) :
    grantResource r x s = reowned r (some x) s := by cases r <;> rfl

/-- A measurement in flight that gets its CFG_CHANGED mark goes on (R11). -/
theorem markConfigChanged_chain (p : Channel → Bool) (s : State) :
    Chain s (markConfigChanged p s) := by
  refine State.setCnv_chain _ ?_
  unfold inFlight
  cases hc : s.cnv.state with
  | starting => exact .inl rfl
  | idle => exact .inl rfl
  | settling m t =>
    refine .inr ⟨m, _, rfl, rfl, ?_⟩
    dsimp only
    split <;> exact ⟨rfl, rfl, rfl, id⟩
  | sampling m t =>
    refine .inr ⟨m, _, rfl, rfl, ?_⟩
    dsimp only
    split <;> exact ⟨rfl, rfl, rfl, id⟩

theorem releaseResource_chain {r : Resource} {x : Port} {s : State} (hx : claimOwner r s = some x)
    (hu : inUseAgainstRelease x r s = false) : Chain s (releaseResource r s) := by
  refine (Move.release r x hx hu).chain.trans ?_
  cases r with
  | channel c =>
    have eq : releaseResource (.channel c) s = markConfigChanged (fun d => d == channelOf c)
      (invalidateSnapshot (channelOf c) (reowned (.channel c) none s)) := rfl
    rw [eq]
    exact (invalidateSnapshot_reports ..).chain.trans (markConfigChanged_chain ..)
  | monitor i => exact .refl
  | source n => exact .refl

/-- The snapshot entries that a write invalidates are reports. -/
theorem invalidateForWrite_reports (c : ExtChannel) (b a : Descriptor) (s : State) :
    Reports s (invalidateForWrite c b a s) := by
  unfold invalidateForWrite
  have one := invalidateSnapshot_reports (channelOf c) s
  dsimp only
  repeat' split
  all_goals first
    | exact one
    | exact .refl s
    | exact one.trans (invalidateSnapshot_reports ..)

/-! ### Sessions and resets -/

theorem setSession_opened_chain (x : Port) (l : Lease) (s : State) :
    Chain s (setSession x (.opened l) s) := (Move.lease x l).chain

theorem renewLease_chain (x : Port) (s : State) : Chain s (renewLease x s) := by
  unfold renewLease
  split
  · exact setSession_opened_chain ..
  · exact .refl
  · exact .refl

theorem renewAfter_chain (x : Port) (c : HostCommand) (s : State) : Chain s (renewAfter x c s) := by
  unfold renewAfter
  split
  · split
    · exact renewLease_chain x s
    · exact .refl
  · exact .refl
  · exact .refl

theorem queueBounded_queueReset : queueBounded queueReset := by
  unfold queueBounded
  decide

theorem teardownRes_reports (x : Port) (e : SessionEnd) (s : State) :
    Reports s (teardownRes x e s) := by
  unfold teardownRes
  split
  · exact appendNotice_reports ..
  · exact setQueue_reports x _ s fun _ => queueBounded_queueReset

/-- The state in which the channel front end has marked the measurement in flight and invalidated
the entries of the channels of `x` (R14, R11). -/
def unsettled (x : Port) (s : State) : State :=
  (markConfigChanged (fun c => claimsChannel x c s) s).setRes { s.res with
    snapshot := tmap s.res.snapshot fun c e => if claimsChannel x c s then invalidEntry e else e }

theorem unsettled_chain (x : Port) (s : State) : Chain s (unsettled x s) :=
  (markConfigChanged_chain _ s).trans (setSnapshot_reports _ (markConfigChanged _ s)).chain

/-- The channels of port `x` return to their defaults (R14). -/
def tornChannels (x : Port) (s : State) : State :=
  s.setCfe (tmap s.cfe fun c d =>
    if tget s.ses.claims.channel c == some x then defaultDescriptor else d)

/-- The shares of a teardown up to the claim table, from a state in which the measurement in flight
is marked already, and the abandon order. -/
def tornDown (x : Port) (v : Session) (s : State) : State :=
  relieved (fun m => m.port == x) (teardownClaims x (teardownMon x (teardownTrg x
    (tornChannels x (teardownSeq x (teardownSch x (setSession x v s)))))))

theorem tornDown_shares (x : Port) (v : Session) (s : State) : TornDown x v s (tornDown x v s) := by
  constructor
  case claim =>
    intro r
    cases r <;>
      simp [tornDown, relieved, teardownClaims, setClaims, teardownMon, teardownTrg, tornChannels,
        teardownSeq, teardownSch, setSession, claimOwner] <;> rfl
  case cnv =>
    simp [tornDown, relieved, teardownClaims, setClaims, teardownMon, teardownTrg, tornChannels,
      teardownSeq, teardownSch, setSession, relievedCnv, inFlight]
    rfl
  case view =>
    simp [tornDown, relieved, teardownClaims, setClaims, teardownMon, teardownTrg, tornChannels,
      teardownSeq, teardownSch, setSession, relievedView, inFlight]
    rfl
  all_goals
    intros
    simp [tornDown, relieved, teardownClaims, setClaims, teardownMon, teardownTrg, tornChannels,
      teardownSeq, teardownSch, setSession, sequence, monitor, stepsHeld, session, PerPort.get_set]

theorem teardownCfe_eq (x : Port) (v : Session) (s : State) :
    teardownCfe x (teardownSeq x (teardownSch x (setSession x v s)))
      = tornChannels x (teardownSeq x (teardownSch x (setSession x v (unsettled x s)))) := rfl

/-- The shares of timebase, result unit and consent state, and the abandon order (R138). -/
theorem teardownRest_chain (x : Port) (e : SessionEnd) (p : Measurement → Bool) (s : State) :
    Chain (relieved p s)
      (abandonWhere p (teardownConsent x (teardownRes x e (teardownTmb x s)))) := by
  refine .trans ?_ (relieved_abandonWhere_chain _ _)
  have told := teardownRes_reports x e (teardownTmb x s)
  obtain ⟨r, m, l, h, eq⟩ := told.frame
  rw [eq] at told ⊢
  have ticked := State.setTmb_chain (teardownTmb x s).tmb (relieved p s)
  have reported := (told.elsewhere (u := (relieved p s).setTmb (teardownTmb x s).tmb)
    rfl rfl rfl rfl).chain
  exact (ticked.trans reported).trans
    (Move.consent (s.ses.consent.filter fun c => !(c.asker == x && c.askedOpen))).chain

/-- The end of a session and its teardown (R131, R132, R138). -/
theorem teardown_chain (x : Port) (e : SessionEnd) (v : Session) (s : State) :
    Chain s (teardown x e (setSession x v s)) := by
  unfold teardown
  dsimp only
  rw [teardownCfe_eq]
  exact ((unsettled_chain x s).trans (Move.teardown (tornDown_shares x v _)).chain).trans
    (teardownRest_chain x e (fun m => m.port == x) _)

/-- Ports that hold no flag have no ALERT to keep. -/
theorem alertAgrees_of_quiet {s : State} (h : ∀ x, (hostPort x s).alert = false
    ∧ (hostPort x s).flags = 0) : alertAgrees s := fun x => by
  rw [(h x).1, (h x).2]
  simp

theorem commandedReset_quiet (p : HostPort) :
    p.commandedReset.alert = false ∧ p.commandedReset.flags = 0 := by
  unfold HostPort.commandedReset
  split <;> exact ⟨rfl, rfl⟩

theorem deviceReset_chain (s : State) : Chain s (deviceReset s) := by
  refine (Move.reset (s := s) (t := deviceReset s)
    ⟨rfl, rfl, .inr ⟨rfl, rfl⟩, rfl, rfl, rfl, rfl, rfl⟩ id
    (alertAgrees_of_quiet fun x => ?_)).chain
  cases x <;> exact commandedReset_quiet _

/-- A session's end, and the commanded device reset if the port was asked (R131, R132, R141). -/
theorem endSession_chain (x : Port) (e : SessionEnd) (s : State) : Chain s (endSession x e s) := by
  have answered {t : State} (h : Chain s t) :
      Chain s (if isAsked x s = true then deviceReset t else t) := by
    split
    · exact h.trans (deviceReset_chain t)
    · exact h
  cases e with
  | close => exact answered ((teardown_chain ..).trans (setFlagsMask_reports ..).chain)
  | lapse t => exact answered (teardown_chain ..)

/-! ### Trigger arrivals (R84) -/

theorem reportMisses_reports (id : SeqId) (q : Sequence) (t : Time) (s : State) :
    Reports s (reportMisses id q t s) := by
  unfold reportMisses
  split
  · exact appendNotice_reports ..
  · exact .refl s

/-- A counted miss leaves the sequence as it is. -/
theorem entryStep_countMiss (s : State) (q : Sequence) : EntryStep s q q.countMiss :=
  ⟨rfl, rfl, rfl, .rfl, .inr rfl, id, fun _ => id, .inl⟩

theorem triggerArrival_chain (n : SourceId) (t : Time) (s : State) :
    Chain s (triggerArrival n t s) := by
  unfold triggerArrival
  split
  · exact .refl
  · split
    · exact .refl
    · next id _ _ q hq =>
      split
      · exact .refl
      · next ha =>
        obtain ⟨r, m, p, h, e⟩ := (reportMisses_reports id q t s).frame
        have told := (reportMisses_reports id q t s).chain
        rw [e] at told ⊢
        refine told.trans ?_
        unfold urgentRequest
        dsimp only
        exact (Work.arrive (s := reported r m p h s) ⟨id, t, _⟩ q hq ha).chain.trans
          (considerUrgent_chain _)
      · exact (Work.entry id q _ hq (entryStep_countMiss s q)).chain
      · exact (Work.entry id q _ hq (entryStep_countMiss s q)).chain
      · exact .refl

theorem promptRequest_immediate_chain {x : Port} {s : State} (c : Channel) (n : SampleCount)
    (hf : promptFull x s = false) : Chain s (promptRequest ⟨x, .immediate c n⟩ s) :=
  (Work.requestNow x c n hf).chain.trans (dispatchIfFree_chain _)

end Sys2Proof.Machine
end

section
/-! ## Every command is a chain of moves -/

namespace Sys2Proof.Machine

open Sys2Proof.Safety

/-! ### The end of a frame -/

/-- What a command answers with is reached by a chain of moves. -/
def Reply.Leads (s : State) : Reply → Prop
  | .refuse _ => True
  | .answer _ _ t => Chain s t
  | .silent t => Chain s t

@[simp] theorem Reply.leads_refuse (s : State) (st : Status) : (Reply.refuse st).Leads s := trivial

@[simp] theorem Reply.leads_answer (s t : State) (st : Status) (p : List Word) :
    (Reply.answer st p t).Leads s ↔ Chain s t := .rfl

@[simp] theorem Reply.leads_silent (s t : State) : (Reply.silent t).Leads s ↔ Chain s t := .rfl

/-- A reading command: whatever it answers, the state is the one it read. -/
theorem Reply.leads_self (s : State) (st : Status) (p : List Word) :
    (Reply.answer st p s).Leads s := .refl

theorem settleReply_chain {x : Port} {c : HostCommand} {tag : Tag} {s : State} {r : Reply}
    (h : r.Leads s) : Chain s (settleReply x c tag s r) := by
  cases r with
  | refuse st => exact (fixResponse_reports ..).chain
  | answer st p t =>
    exact Relation.ReflTransGen.trans h
      ((renewAfter_chain x c t).trans (fixResponse_reports ..).chain)
  | silent t => exact h

theorem atFrameEnd_chain {x : Port} {f : State → State} (s : State) (h : ∀ s0, Chain s0 (f s0)) :
    Chain s (atFrameEnd x f s) := by
  have ended := (endFrame_reports x s).chain
  unfold atFrameEnd
  split
  · exact .refl
  · split
    · exact ended
    · exact ended.trans (h _)
    · exact ended.trans (h _)

/-- A command leads where its own checks and effect lead, in a session that admits it. -/
theorem takeCommand_chain {x : Port} {c : HostCommand} {body : State → Reply} (tag : Tag)
    (s : State)
    (h : ∀ s0, sessionAdmits (session x s0) c = true → (body s0).Leads s0) :
    Chain s (takeCommand x c tag body s) := by
  refine atFrameEnd_chain s fun s0 => settleReply_chain ?_
  unfold judge
  split
  · split
    · next admits => exact h s0 admits
    · trivial
  · trivial

/-- The commands taken in an OPEN session alone (R133). -/
theorem sessionOpen_of_admits {x : Port} {c : HostCommand} {s : State}
    (h : sessionAdmits (session x s) c = true) (hc : takenInClosed c = false)
    (hr : c ≠ .readResults) (hf : c ≠ .flush) : sessionOpen x s = true := by
  by_contra closed
  rw [Bool.not_eq_true] at closed
  rw [sessionAdmits_eq, passesSession_of_not_open closed hc hr hf] at h
  cases h

/-! ### Channels and claims -/

theorem writeDescriptor_chain {x : Port} {c : ExtChannel} (range : Range) {mode : InputMode}
    (settle : BitVec 10) {s : State} (ho : (tget s.cfe c).owner = some x)
    (hd : mode = .diff → ∃ o, oddPartner c = some o ∧ (tget s.cfe o).owner = some x
      ∧ ((tget s.cfe c).mode = .single → partnerInUse x o s = false)) :
    Chain s (writeDescriptor c range mode settle s) := by
  unfold writeDescriptor
  dsimp only
  exact .trans ((Move.write x c range mode settle ho hd).chain.trans
    (invalidateForWrite_reports ..).chain) (markConfigChanged_chain ..)

theorem checkedWrite_leads (x : Port) (c : ExtChannel) (range : Range) (mode : InputMode)
    (settle : BitVec 10) (s : State) : (checkedWrite x c range mode settle s).Leads s := by
  unfold checkedWrite
  dsimp only
  split
  · trivial
  · next owned =>
    rw [ne_eq, not_not] at owned
    cases mode with
    | single =>
      dsimp only
      split
      · trivial
      · exact writeDescriptor_chain range settle owned nofun
    | diff =>
      dsimp only
      split
      · trivial
      · next o paired =>
        split
        · trivial
        · next both =>
          split
          · trivial
          · split
            · trivial
            · next free =>
              refine writeDescriptor_chain range settle owned fun _ => ⟨o, paired, ?_, ?_⟩
              · simpa using both
              · simpa using free

theorem setChannelCommand_leads (x : Port) (args : List Word) (s : State) :
    (setChannelCommand x args s).Leads s := by
  unfold setChannelCommand
  repeat' split
  any_goals exact trivial
  all_goals exact checkedWrite_leads ..

theorem getChannelCommand_leads (args : List Word) (s : State) :
    (getChannelCommand args s).Leads s := by
  unfold getChannelCommand
  repeat' split
  any_goals exact trivial
  all_goals exact Reply.leads_self ..

theorem claimCommand_leads {x : Port} {s : State} (args : List Word) (h : sessionOpen x s = true) :
    (claimCommand x args s).Leads s := by
  unfold claimCommand
  split
  · split
    · trivial
    · next r _ =>
      split
      · split
        · exact Reply.leads_self ..
        · trivial
      · next unowned =>
        split
        · trivial
        · next unused =>
          rw [Reply.leads_answer, grantResource_eq]
          exact (Move.grant r x unowned (by simpa using unused) h).chain
  · trivial

theorem releaseCommand_leads (x : Port) (args : List Word) (s : State) :
    (releaseCommand x args s).Leads s := by
  unfold releaseCommand
  split
  · split
    · trivial
    · split
      · next owned =>
        split
        · trivial
        · next unused => exact releaseResource_chain owned (by simpa using unused)
      · trivial
  · trivial

/-! ### The timebase -/

theorem readTimeCommand_leads (args : List Word) (s : State) :
    (readTimeCommand args s).Leads s := by
  unfold readTimeCommand
  split
  · exact Reply.leads_self ..
  · trivial

theorem readSyncCommand_leads (args : List Word) (s : State) :
    (readSyncCommand args s).Leads s := by
  unfold readSyncCommand
  split
  · exact Reply.leads_self ..
  · trivial

theorem checkClockCommand_leads (x : Port) (args : List Word) (s : State) :
    (checkClockCommand x args s).Leads s := by
  unfold checkClockCommand
  split
  · split
    · exact State.setTmb_chain ..
    · exact State.setTmb_chain ..
  · trivial

theorem readClockCheckCommand_leads (x : Port) (args : List Word) (s : State) :
    (readClockCheckCommand x args s).Leads s := by
  unfold readClockCheckCommand
  split
  · exact Reply.leads_self ..
  · trivial

theorem syncEdge_chain (level : Level) (s : State) : Chain s (syncEdge level s) := by
  unfold syncEdge
  split
  · exact .refl
  · cases level <;> exact State.setTmb_chain ..

theorem tellMarked_reports (k : RunningCheck) (x : Port) (s : State) :
    Reports s (tellMarked k x s) := by
  unfold tellMarked
  split
  · exact raiseFlag_reports ..
  · exact .refl s

theorem completeCheck_chain (k : RunningCheck) (v : ClockVerdict) (n : Nat) (s : State) :
    Chain s (completeCheck k v n s) :=
  (State.setTmb_chain _ s).trans
    ((tellMarked_reports k .A _).trans (tellMarked_reports k .B _)).chain

theorem refclkEdge_chain (s : State) : Chain s (refclkEdge s) := by
  unfold refclkEdge
  split
  · exact .refl
  · split
    · exact State.setTmb_chain ..
    · split
      · exact State.setTmb_chain ..
      · exact completeCheck_chain ..

theorem checkTickCountLimit_chain (s : State) : Chain s (checkTickCountLimit s) := by
  unfold checkTickCountLimit
  split
  · exact .refl
  · split
    · exact completeCheck_chain ..
    · exact completeCheck_chain ..

/-! ### The converter -/

theorem convertNowCommand_leads (x : Port) (args : List Word) (s : State) :
    (convertNowCommand x args s).Leads s := by
  unfold convertNowCommand
  split
  · split
    · split
      · trivial
      · split
        · trivial
        · next room =>
          split
          · trivial
          · exact promptRequest_immediate_chain _ _ (by simpa using room)
    · trivial
  · trivial

theorem settleExpiry_chain (s : State) : Chain s (settleExpiry s) := by
  unfold settleExpiry
  split
  · next m t hm =>
    exact State.setCnv_chain _
      (.inr ⟨m, m, by simp [inFlight, hm], rfl, ⟨rfl, rfl, rfl, id⟩⟩)
  · exact .refl
  · exact .refl
  · exact .refl

theorem sampleCompletion_chain (raw : Word) (s : State) : Chain s (sampleCompletion raw s) := by
  unfold sampleCompletion
  split
  · next m t hm =>
    have flying : inFlight s = some m := by simp [inFlight, hm]
    dsimp only
    split
    · next cut => exact cutReport_chain flying (.inl cut) rfl
    · split
      · exact State.setCnv_chain _ (.inr ⟨m, addSample raw m, flying, rfl, ⟨rfl, rfl, rfl, id⟩⟩)
      · exact takeOutcome_chain flying rfl
  · exact .refl
  · exact .refl
  · exact .refl

/-! ### Resets -/

theorem fresh_resetBlocks (tpol : Level) (s : State) : Fresh (resetBlocks tpol s) :=
  ⟨rfl, rfl, .inl ⟨rfl, rfl⟩, rfl, rfl, rfl, rfl, rfl⟩

/-- The latch begins TRIPPED with STARTUP, the line at its stop level (R119). -/
theorem latchAgrees_of_resetBegin {s : State} {tpol : Level} {t : TripinLevel}
    (h : s.trp = latchAtResetBegin tpol t) : latchAgrees s := by
  unfold latchAgrees
  rw [h]
  exact ⟨by simp [latchAtResetBegin, startupBit], rfl⟩

theorem resetBlocks_chain (tpol : Level) (s : State) : Chain s (resetBlocks tpol s) := by
  refine (Move.reset (fresh_resetBlocks tpol s)
    (fun _ => latchAgrees_of_resetBegin (tpol := tpol) rfl)
    (alertAgrees_of_quiet fun x => ?_)).chain
  cases x <;> exact ⟨rfl, rfl⟩

theorem hostAtResetEnd_quiet (b : Bool) :
    (hostAtResetEnd b).alert = false ∧ (hostAtResetEnd b).flags = 0 := by
  cases b <;> exact ⟨rfl, rfl⟩

theorem takeLevels_chain (l : LineLevels) (s : State) : Chain s (takeLevels l s) := by
  have lined := (Move.lines (s := s)
    (tmap s.trg.line fun n r => { r with level := tget (trgLevels l) n }) s.trg.timer).chain
  have clocked := (Move.clock (s := s.setTrg { s.trg with
      line := tmap s.trg.line fun n r => { r with level := tget (trgLevels l) n } })
    { s.tmb with counter := 0, subTick := 0, syncLevel := l.sync } false s.choice s.pending).chain
  have ports := (Reports.ofHost (s := ((s.setTrg { s.trg with
      line := tmap s.trg.line fun n r => { r with level := tget (trgLevels l) n } }).setTmb
    { s.tmb with counter := 0, subTick := 0, syncLevel := l.sync }).setResetActive false)
    ⟨hostAtResetEnd l.selectA, hostAtResetEnd l.selectB⟩ fun _ => alertAgrees_of_quiet fun x => by
      cases x <;> exact hostAtResetEnd_quiet _).trans (setTripin_reports (tripinOf l.tripin) _)
  have taken := (lined.trans clocked).trans ports.chain
  unfold takeLevels
  dsimp only
  split
  · exact .trans taken (addCauses_reports (causeBit_ne_zero .ext) _).chain
  · exact taken

theorem powerOn_chain (tpol : Level) (l : LineLevels) (s : State) : Chain s (powerOn tpol l s) :=
  (resetBlocks_chain tpol s).trans (takeLevels_chain l _)

theorem pinReset_chain (tpol : Level) (s : State) : Chain s (pinReset tpol s) :=
  (resetBlocks_chain tpol s).trans
    (Move.clock (resetBlocks tpol s).tmb true s.choice s.pending).chain

theorem resetnRelease_chain (l : LineLevels) (s : State) : Chain s (resetnRelease l s) := by
  unfold resetnRelease
  split
  · exact takeLevels_chain l s
  · exact .refl

theorem endOfTrimLoad_chain (s : State) : Chain s (endOfTrimLoad s) := by
  unfold endOfTrimLoad
  split
  · next h =>
    refine .trans (Work.trimLoaded (loadTrim s.cnv) h.1 ?_).chain (dispatch_chain rfl)
    unfold loadTrim
    split <;> rfl
  · exact .refl

/-! ### Chapter 10 -/

theorem frameBegin_chain (x : Port) (s : State) : Chain s (frameBegin x s) := by
  unfold frameBegin
  split
  · exact .refl
  · split
    · exact Reports.chain (setHostPort_reports x _ s id)
    · exact .refl
    · exact .refl

theorem discardedFrameEnd_chain (x : Port) (s : State) : Chain s (discardedFrameEnd x s) := by
  unfold discardedFrameEnd
  split
  · exact .refl
  · split
    · exact (endFrame_reports x s).chain
    · exact .refl
    · exact .refl

theorem statusCommand_leads (x : Port) (args : List Word) (s : State) :
    (statusCommand x args s).Leads s := by
  unfold statusCommand
  split
  · exact Reply.leads_self ..
  · trivial

theorem identCommand_leads (x : Port) (args : List Word) (s : State) :
    (identCommand x args s).Leads s := by
  unfold identCommand
  split
  · exact Reply.leads_self ..
  · trivial

theorem repeatCommand_leads (args : List Word) (s : State) : (repeatCommand args s).Leads s := by
  unfold repeatCommand
  split
  · exact Relation.ReflTransGen.refl
  · trivial

theorem ackEventsCommand_leads (x : Port) (args : List Word) (s : State) :
    (ackEventsCommand x args s).Leads s := by
  unfold ackEventsCommand
  repeat' split
  any_goals exact trivial
  all_goals exact (setFlagsMask_reports ..).chain

theorem setAlertMaskCommand_leads (x : Port) (args : List Word) (s : State) :
    (setAlertMaskCommand x args s).Leads s := by
  unfold setAlertMaskCommand
  repeat' split
  any_goals exact trivial
  all_goals exact (setFlagsMask_reports ..).chain

/-! ### Monitors -/

theorem withMonitor_leads {args : List Word} {s : State} {f : MonId → Reply}
    (h : ∀ i, (f i).Leads s) : (withMonitor args f).Leads s := by
  unfold withMonitor
  repeat' split
  any_goals exact trivial
  all_goals exact h _

/-- Settings that pass the argument check have a count of 1 to 15 (R110). -/
theorem settingsOf_count {ch low high hyst cnt act : Word} {v : MonitorSettings}
    (h : settingsOf ch low high hyst cnt act = some v) : v.count ≤ 15 := by
  unfold settingsOf at h
  split at h
  · split at h
    · next fits =>
      cases h
      exact fits.2.2
    · cases h
  · cases h

theorem setMonitorCommand_leads (x : Port) (args : List Word) (s : State) :
    (setMonitorCommand x args s).Leads s := by
  unfold setMonitorCommand
  split
  · split
    · next i v _ hv =>
      dsimp only
      split
      · trivial
      · next owned =>
        rw [ne_eq, not_not] at owned
        repeat' split
        all_goals first
          | trivial
          | exact Move.chain (.monitor x i ((monitor i s).program v) owned owned
              (fun _ => ⟨settingsOf_count hv, rfl⟩) (absurd rfl))
    · trivial
  · trivial

theorem monitorOnCommand_leads (x : Port) (args : List Word) (s : State) :
    (monitorOnCommand x args s).Leads s := by
  refine withMonitor_leads fun i => ?_
  dsimp only
  split
  · trivial
  · next owned =>
    rw [ne_eq, not_not] at owned
    split
    · trivial
    · next mine =>
      split
      · trivial
      · split
        · trivial
        · next counted =>
          split
          · trivial
          · next usable =>
            refine Move.chain (.monitor x i { monitor i s with state := .within, outside := 0 }
              owned owned (fun sane => ⟨sane.1, ?_, rfl⟩) fun _ => ?_)
            · exact Nat.one_le_iff_ne_zero.mpr counted
            · exact ⟨by simpa using mine, by simpa using usable⟩

theorem Monitor.turnOff_owner (m : Monitor) : m.turnOff.owner = m.owner := by
  unfold turnOff
  split <;> rfl

theorem Monitor.turnOff_state (m : Monitor) : m.turnOff.state = .off := by
  unfold turnOff
  split
  · assumption
  all_goals rfl

theorem Monitor.turnOff_sane {m : Monitor} (h : monitorSane m) : monitorSane m.turnOff := by
  unfold turnOff
  split
  · exact h
  all_goals exact ⟨h.1, rfl⟩

theorem monitorOffCommand_leads (x : Port) (args : List Word) (s : State) :
    (monitorOffCommand x args s).Leads s := by
  refine withMonitor_leads fun i => ?_
  split
  · trivial
  · next owned =>
    rw [ne_eq, not_not] at owned
    exact Move.chain (.monitor x i (monitor i s).turnOff owned
      ((monitor i s).turnOff_owner.trans owned) Monitor.turnOff_sane
      fun on => absurd (monitor i s).turnOff_state on)

theorem getMonitorCommand_leads (args : List Word) (s : State) :
    (getMonitorCommand args s).Leads s := withMonitor_leads fun _ => Reply.leads_self ..

/-! ### Results -/

theorem readResultsCommand_leads (x : Port) (args : List Word) (s : State) :
    (readResultsCommand x args s).Leads s := by
  unfold readResultsCommand
  split
  · split
    · trivial
    · next fits =>
      split
      · trivial
      · refine Relation.ReflTransGen.trans (setQueue_reports x _ s ?_).chain (reportFall_chain ..)
        rintro ⟨hn, _, _, hg, hw⟩
        refine ⟨?_, ?_, ?_, hg, hw⟩ <;> simp <;> omega
  · trivial

theorem flushCommand_leads (x : Port) (args : List Word) (s : State) :
    (flushCommand x args s).Leads s := by
  unfold flushCommand
  split
  · refine Relation.ReflTransGen.trans (setQueue_reports x _ s ?_).chain (reportFall_chain ..)
    rintro ⟨_, _, _, _, hw⟩
    exact ⟨Nat.zero_le _, Nat.zero_le _, Nat.zero_le _, Nat.zero_le _, hw⟩
  · trivial

theorem markCommand_leads (x : Port) (args : List Word) (s : State) :
    (markCommand x args s).Leads s := by
  unfold markCommand
  repeat' split
  any_goals exact trivial
  all_goals exact (appendNotice_reports ..).chain

theorem setWatermarkCommand_leads (x : Port) (args : List Word) (s : State) :
    (setWatermarkCommand x args s).Leads s := by
  unfold setWatermarkCommand
  split
  · next w =>
    split
    · next fits =>
      have set := setQueue_reports x { resultQueue x s with watermark := w.toNat } s
        fun ⟨hn, hd, hdc, hg, _⟩ => ⟨hn, hd, hdc, hg, fits⟩
      rw [Reply.leads_answer]
      split
      · exact (set.trans (raiseFlag_reports ..)).chain
      · exact set.chain
    · trivial
  · trivial

theorem readSnapshotCommand_leads (args : List Word) (s : State) :
    (readSnapshotCommand args s).Leads s := by
  unfold readSnapshotCommand
  repeat' split
  any_goals exact trivial
  all_goals exact Reply.leads_self ..

/-! ### Sequences -/

/-- A definition changes the table, the step store counts and the binding of its source. -/
theorem allocate_eq (x : Port) (id : SeqId) (k : SeqKind) (steps : List SeqStep) (s : State) :
    allocate x id k steps s = (s.setSeq
      { table := tset s.seq.table id (some ⟨x, k, steps, .defined, 0, 0, 0, 0⟩)
        stepTotal := s.seq.stepTotal + steps.length
        stepCount := s.seq.stepCount.set x (s.seq.stepCount.get x + steps.length) }).setTrg
      (bindKind k id s).trg := by
  cases k <;> rfl

theorem freeSequence_eq (x : Port) (id : SeqId) (q : Sequence) (s : State) :
    freeSequence x id q s = (s.setSeq
      { table := tset s.seq.table id none
        stepTotal := s.seq.stepTotal - q.steps.length
        stepCount := s.seq.stepCount.set x (s.seq.stepCount.get x - q.steps.length) }).setTrg
      (unbindKind q.kind s).trg := by
  unfold freeSequence
  cases q.kind <;> rfl

theorem checkedDefine_leads {x : Port} (k : SeqKind) (steps : List SeqStep) {s : State}
    (h : sessionOpen x s = true) : (checkedDefine x k steps s).Leads s := by
  unfold checkedDefine
  split
  · trivial
  · next sourced =>
    split
    · trivial
    · split
      · trivial
      · next id hid =>
        have vacant := List.find?_some hid
        split
        · trivial
        · next room =>
          split
          · trivial
          · split
            · trivial
            · next unbound =>
              rw [Reply.leads_answer, allocate_eq]
              exact (Move.define x id k steps (by simpa using vacant) (by simpa using sourced)
                (by simpa using unbound) (by simpa using room) h).chain

theorem defineCommand_leads {x : Port} {s : State} (args : List Word) (h : sessionOpen x s = true) :
    (defineCommand x args s).Leads s := by
  unfold defineCommand
  repeat' split
  any_goals exact trivial
  all_goals exact checkedDefine_leads _ _ h

theorem ownSequence_leads {x : Port} {args : List Word} {s : State} {f : SeqId → Sequence → Reply}
    (h : ∀ id q, sequence id s = some q → q.owner = x → (f id q).Leads s) :
    (ownSequence x args s f).Leads s := by
  unfold ownSequence
  split
  · split
    · trivial
    · next id _ =>
      split
      · trivial
      · next q hq =>
        split
        · next owned => exact h id q hq owned
        · trivial
  · trivial

theorem deleteCommand_leads (x : Port) (args : List Word) (s : State) :
    (deleteCommand x args s).Leads s := by
  refine ownSequence_leads fun id q hq owned => ?_
  split
  · next defined =>
    subst owned
    rw [Reply.leads_answer, freeSequence_eq]
    exact (Move.delete id q hq defined).chain
  · trivial

/-- ENABLE arms or starts a sequence over channels that are neither foreign nor absorbed (R44). -/
theorem enableSequence_chain {id : SeqId} {q : Sequence} {s : State} (hq : sequence id s = some q)
    (hd : q.state = .defined) (hu : ∀ st ∈ q.steps,
      foreignTo q.owner st.channel s = false ∧ absorbed st.channel s = false) :
    Chain s (enableSequence id q s) := by
  have armed (hk : q.kind ≠ .continuous) : Chain s (setSequence id
      (some { q with state := .armed, index := 0, restarts := 0, misses := 0 }) s) :=
    (Work.entry id q { q with state := .armed, index := 0, restarts := 0, misses := 0 } hq
      ⟨rfl, rfl, rfl, by simp [hd], .inl rfl, by simp [hd], fun k => absurd k hk,
        fun _ => .inr hu⟩).chain
  unfold enableSequence
  dsimp only
  split
  · next hk => exact armed (by simp [hk])
  · next hk => exact armed (by simp [hk])
  · refine .trans (Work.entry id q q.startPass hq ?_).chain (dispatchIfFree_chain _)
    exact ⟨rfl, rfl, rfl, by simp [hd, Sequence.startPass], .inl rfl, fun _ => .inl rfl,
      fun _ h => (by cases h), fun _ => .inr hu⟩

theorem enableCommand_leads (x : Port) (args : List Word) (s : State) :
    (enableCommand x args s).Leads s := by
  refine ownSequence_leads fun id q hq owned => ?_
  subst owned
  split
  · trivial
  · next mine =>
    split
    · trivial
    · next defined =>
      rw [ne_eq, not_not] at defined
      split
      · trivial
      · next usable =>
        simp only [anyForeign, anyAbsorbed, List.any_eq_true, not_exists, not_and,
          Bool.not_eq_true] at mine usable
        exact enableSequence_chain hq defined fun st hst => ⟨mine st hst, usable st hst⟩

theorem stopSequence_chain {id : SeqId} {q : Sequence} {s : State} (hq : sequence id s = some q) :
    Chain s (stopSequence id q s) := by
  unfold stopSequence
  split
  · next armed =>
    exact (Work.entry id q q.toDefined hq ⟨rfl, rfl, rfl, by simp [armed, Sequence.toDefined],
      .inr rfl, by simp [armed], fun _ h => (by cases h), fun h => (by cases h)⟩).chain
  · next pending => exact (Work.stopPending id q hq pending).chain
  · next running =>
    exact (Work.entry id q { q with state := .stopping } hq ⟨rfl, rfl, rfl, by simp [running],
      .inr rfl, fun _ => .inr rfl, fun _ h => (by cases h),
      fun _ => .inl (by rw [running]; rfl)⟩).chain
  · exact .refl
  · exact .refl

theorem stopCommand_leads (x : Port) (args : List Word) (s : State) :
    (stopCommand x args s).Leads s := by
  refine ownSequence_leads fun id q hq _ => ?_
  split
  · trivial
  · exact stopSequence_chain hq

/-- A withdrawal is the scheduler's alone. -/
theorem withdraw_eq (id : SeqId) (st : SeqState) (s : State) :
    withdraw id st s = s.setSch (withdraw id st s).sch := by cases st <;> rfl

theorem withdraw_view (id : SeqId) (st : SeqState) (s : State) :
    (withdraw id st s).sch.view = s.sch.view := by cases st <;> rfl

theorem haltSequence_chain (x : Port) {id : SeqId} {q : Sequence} {s : State}
    (hq : sequence id s = some q) : Chain s (haltSequence x id q s) := by
  have halted := (Work.halt id q hq).chain
  have view : relievedView (fun m => m.ofSequence id) s
      = relievedView (fun m => m.ofSequence id) (s.setSch (withdraw id q.state s).sch) := by
    unfold relievedView
    rw [State.setSch_sch, withdraw_view]
    rfl
  rw [view] at halted
  unfold haltSequence
  dsimp only
  rw [withdraw_eq]
  exact .trans (halted.trans (relieved_abandonWhere_chain (fun m => m.ofSequence id)
    (setSequence id (some { q.toDefined with restarts := 0 })
      (s.setSch (withdraw id q.state s).sch)))) (appendNotice_reports ..).chain

theorem haltCommand_leads (x : Port) (args : List Word) (s : State) :
    (haltCommand x args s).Leads s := by
  refine ownSequence_leads fun id q hq _ => ?_
  split
  · trivial
  · exact haltSequence_chain x hq

theorem runCommand_leads (x : Port) (args : List Word) (s : State) :
    (runCommand x args s).Leads s := by
  refine ownSequence_leads fun id q hq owned => ?_
  subst owned
  split
  · trivial
  · next room =>
    split
    · trivial
    · next kind =>
      split
      · trivial
      · next armed =>
        rw [ne_eq, not_not] at armed
        exact .trans (Work.run id q hq armed kind (by simpa using room)).chain
          (dispatchIfFree_chain _)

theorem getSequenceCommand_leads (args : List Word) (s : State) :
    (getSequenceCommand args s).Leads s := by
  unfold getSequenceCommand
  repeat' split
  any_goals exact trivial
  all_goals exact Reply.leads_self ..

/-! ### Sessions and reset by consent -/

theorem openCommand_leads (x : Port) (args : List Word) (s : State) :
    (openCommand x args s).Leads s := by
  unfold openCommand
  split
  · split
    · split
      · trivial
      · split
        · trivial
        · exact .trans (setSession_opened_chain ..) (setFlagsMask_reports ..).chain
        · exact setSession_opened_chain ..
    · trivial
  · trivial

theorem closeCommand_leads (x : Port) (args : List Word) (s : State) :
    (closeCommand x args s).Leads s := by
  unfold closeCommand
  split
  · split
    · exact endSession_chain x .close s
    · exact endSession_chain x .close s
  · trivial

theorem renewCommand_leads (args : List Word) (s : State) : (renewCommand args s).Leads s := by
  unfold renewCommand
  split
  · exact Reply.leads_self ..
  · trivial

theorem setLeaseCommand_leads (x : Port) (args : List Word) (s : State) :
    (setLeaseCommand x args s).Leads s := by
  unfold setLeaseCommand
  repeat' split
  any_goals exact trivial
  all_goals exact setSession_opened_chain ..

theorem setConsent_chain (v : Option Consent) (s : State) : Chain s (setConsent v s) :=
  (Move.consent v).chain

theorem denyRequest_chain (x : Port) (s : State) : Chain s (denyRequest x s) :=
  (setConsent_chain none s).trans (raiseFlag_reports ..).chain

theorem resetDeviceCommand_leads (x : Port) (args : List Word) (s : State) :
    (resetDeviceCommand x args s).Leads s := by
  unfold resetDeviceCommand
  split
  · split
    · split
      · exact .trans (setConsent_chain ..) (raiseFlag_reports ..).chain
      · exact deviceReset_chain s
    · split
      · trivial
      · exact deviceReset_chain s
  · trivial

theorem denyResetCommand_leads (x : Port) (args : List Word) (s : State) :
    (denyResetCommand x args s).Leads s := by
  unfold denyResetCommand
  repeat' split
  any_goals exact trivial
  all_goals exact denyRequest_chain ..

theorem leaseWarning_chain (x : Port) (s : State) : Chain s (leaseWarning x s) := by
  unfold leaseWarning
  split
  · split
    · exact .trans (setSession_opened_chain ..) (raiseFlag_reports ..).chain
    · exact .refl
  · exact .refl
  · exact .refl

theorem leaseExpiry_chain (x : Port) (s : State) : Chain s (leaseExpiry x s) := by
  unfold leaseExpiry
  split
  · exact endSession_chain ..
  · exact .refl
  · exact .refl

theorem consentWindowExpiry_chain (s : State) : Chain s (consentWindowExpiry s) := by
  unfold consentWindowExpiry
  split
  · exact denyRequest_chain ..
  · exact .refl

/-! ### Trigger sources -/

theorem setLine_chain (l : Vector LineSource 4) (s : State) :
    Chain s (s.setTrg { s.trg with line := l }) := (Move.lines l s.trg.timer).chain

theorem setTimers_chain (t : Vector CadenceTimer 4) (s : State) :
    Chain s (s.setTrg { s.trg with timer := t }) := (Move.lines s.trg.line t).chain

theorem lineTransition_chain (n : Fin 4) (level : Level) (s : State) :
    Chain s (lineTransition n level s) := by
  unfold lineTransition
  dsimp only
  split
  · exact .refl
  · split
    · exact .trans (setLine_chain ..) (triggerArrival_chain ..)
    · exact setLine_chain ..

theorem cadenceExpiry_chain (n : Fin 4) (s : State) : Chain s (cadenceExpiry n s) := by
  unfold cadenceExpiry
  dsimp only
  split
  · exact .refl
  · exact .trans (setTimers_chain ..) (triggerArrival_chain ..)

theorem setTriggerCommand_leads (x : Port) (args : List Word) (s : State) :
    (setTriggerCommand x args s).Leads s := by
  unfold setTriggerCommand
  repeat' split
  any_goals exact trivial
  all_goals exact setLine_chain ..

theorem setCadenceCommand_leads (x : Port) (args : List Word) (s : State) :
    (setCadenceCommand x args s).Leads s := by
  unfold setCadenceCommand
  dsimp only
  repeat' split
  any_goals exact trivial
  all_goals exact setTimers_chain ..

theorem startCadenceCommand_leads (x : Port) (args : List Word) (s : State) :
    (startCadenceCommand x args s).Leads s := by
  unfold startCadenceCommand
  dsimp only
  repeat' split
  any_goals exact trivial
  all_goals exact setTimers_chain ..

theorem stopCadenceCommand_leads (x : Port) (args : List Word) (s : State) :
    (stopCadenceCommand x args s).Leads s := by
  unfold stopCadenceCommand
  repeat' split
  any_goals exact trivial
  all_goals exact setTimers_chain ..

/-! ### The trip latch -/

theorem tripAckCommand_leads (x : Port) (args : List Word) (s : State) :
    (tripAckCommand x args s).Leads s := by
  unfold tripAckCommand
  split
  · exact (removeCauses_reports ..).chain
  · trivial

theorem forceTripCommand_leads (x : Port) (args : List Word) (s : State) :
    (forceTripCommand x args s).Leads s := by
  unfold forceTripCommand
  split
  · exact (addCauses_reports (causeBit_ne_zero _) s).chain
  · trivial

theorem tripStatusCommand_leads (x : Port) (args : List Word) (s : State) :
    (tripStatusCommand x args s).Leads s := by
  unfold tripStatusCommand
  split
  · exact Reply.leads_self ..
  · trivial

theorem tripinChange_chain (level : Level) (s : State) : Chain s (tripinChange level s) := by
  have taken := setTripin_reports (tripinOf level) s
  unfold tripinChange
  split
  · exact .refl
  · dsimp only
    split
    · exact (taken.trans (addCauses_reports (causeBit_ne_zero .ext) _)).chain
    · exact taken.chain

/-! ### Commands, ticks and steps -/

/-- Every command answers with a next state that a chain of moves reaches. -/
theorem exec_chain (i : Instr) (s : State) : ∃ t, exec i s = .next t ∧ Chain s t := by
  cases i with
  | powerOn tpol l => exact ⟨_, rfl, powerOn_chain tpol l s⟩
  | pinReset tpol => exact ⟨_, rfl, pinReset_chain tpol s⟩
  | endOfTrimLoad => exact ⟨_, rfl, endOfTrimLoad_chain s⟩
  | frameError x ws b =>
    exact ⟨_, rfl, atFrameEnd_chain s fun _ => (fixResponse_reports ..).chain⟩
  | unknownCommand x c t a =>
    exact ⟨_, rfl, atFrameEnd_chain s fun _ => (fixResponse_reports ..).chain⟩
  | discardedFrameEnd x => exact ⟨_, rfl, discardedFrameEnd_chain x s⟩
  | openSession x t a => exact ⟨_, rfl, takeCommand_chain t s fun _ _ => openCommand_leads ..⟩
  | closeSession x t a => exact ⟨_, rfl, takeCommand_chain t s fun _ _ => closeCommand_leads ..⟩
  | renew x t a => exact ⟨_, rfl, takeCommand_chain t s fun _ _ => renewCommand_leads ..⟩
  | setLease x t a => exact ⟨_, rfl, takeCommand_chain t s fun _ _ => setLeaseCommand_leads ..⟩
  | resetDevice x t a =>
    exact ⟨_, rfl, takeCommand_chain t s fun _ _ => resetDeviceCommand_leads ..⟩
  | denyReset x t a => exact ⟨_, rfl, takeCommand_chain t s fun _ _ => denyResetCommand_leads ..⟩
  | status x t a => exact ⟨_, rfl, takeCommand_chain t s fun _ _ => statusCommand_leads ..⟩
  | ident x t a => exact ⟨_, rfl, takeCommand_chain t s fun _ _ => identCommand_leads ..⟩
  | repeatLast x t a => exact ⟨_, rfl, takeCommand_chain t s fun _ _ => repeatCommand_leads ..⟩
  | ackEvents x t a => exact ⟨_, rfl, takeCommand_chain t s fun _ _ => ackEventsCommand_leads ..⟩
  | setAlertMask x t a =>
    exact ⟨_, rfl, takeCommand_chain t s fun _ _ => setAlertMaskCommand_leads ..⟩
  | claim x t a =>
    exact ⟨_, rfl, takeCommand_chain t s fun _ h =>
      claimCommand_leads a (sessionOpen_of_admits h rfl nofun nofun)⟩
  | release x t a => exact ⟨_, rfl, takeCommand_chain t s fun _ _ => releaseCommand_leads ..⟩
  | setChannel x t a => exact ⟨_, rfl, takeCommand_chain t s fun _ _ => setChannelCommand_leads ..⟩
  | getChannel x t a => exact ⟨_, rfl, takeCommand_chain t s fun _ _ => getChannelCommand_leads ..⟩
  | defineSequence x t a =>
    exact ⟨_, rfl, takeCommand_chain t s fun _ h =>
      defineCommand_leads a (sessionOpen_of_admits h rfl nofun nofun)⟩
  | deleteSequence x t a => exact ⟨_, rfl, takeCommand_chain t s fun _ _ => deleteCommand_leads ..⟩
  | enable x t a => exact ⟨_, rfl, takeCommand_chain t s fun _ _ => enableCommand_leads ..⟩
  | stop x t a => exact ⟨_, rfl, takeCommand_chain t s fun _ _ => stopCommand_leads ..⟩
  | halt x t a => exact ⟨_, rfl, takeCommand_chain t s fun _ _ => haltCommand_leads ..⟩
  | run x t a => exact ⟨_, rfl, takeCommand_chain t s fun _ _ => runCommand_leads ..⟩
  | getSequence x t a =>
    exact ⟨_, rfl, takeCommand_chain t s fun _ _ => getSequenceCommand_leads ..⟩
  | convertNow x t a => exact ⟨_, rfl, takeCommand_chain t s fun _ _ => convertNowCommand_leads ..⟩
  | setTrigger x t a => exact ⟨_, rfl, takeCommand_chain t s fun _ _ => setTriggerCommand_leads ..⟩
  | setCadence x t a => exact ⟨_, rfl, takeCommand_chain t s fun _ _ => setCadenceCommand_leads ..⟩
  | startCadence x t a =>
    exact ⟨_, rfl, takeCommand_chain t s fun _ _ => startCadenceCommand_leads ..⟩
  | stopCadence x t a =>
    exact ⟨_, rfl, takeCommand_chain t s fun _ _ => stopCadenceCommand_leads ..⟩
  | readResults x t a =>
    exact ⟨_, rfl, takeCommand_chain t s fun _ _ => readResultsCommand_leads ..⟩
  | flush x t a => exact ⟨_, rfl, takeCommand_chain t s fun _ _ => flushCommand_leads ..⟩
  | mark x t a => exact ⟨_, rfl, takeCommand_chain t s fun _ _ => markCommand_leads ..⟩
  | setWatermark x t a =>
    exact ⟨_, rfl, takeCommand_chain t s fun _ _ => setWatermarkCommand_leads ..⟩
  | readSnapshot x t a =>
    exact ⟨_, rfl, takeCommand_chain t s fun _ _ => readSnapshotCommand_leads ..⟩
  | setMonitor x t a => exact ⟨_, rfl, takeCommand_chain t s fun _ _ => setMonitorCommand_leads ..⟩
  | monitorOn x t a => exact ⟨_, rfl, takeCommand_chain t s fun _ _ => monitorOnCommand_leads ..⟩
  | monitorOff x t a => exact ⟨_, rfl, takeCommand_chain t s fun _ _ => monitorOffCommand_leads ..⟩
  | getMonitor x t a => exact ⟨_, rfl, takeCommand_chain t s fun _ _ => getMonitorCommand_leads ..⟩
  | tripAck x t a => exact ⟨_, rfl, takeCommand_chain t s fun _ _ => tripAckCommand_leads ..⟩
  | forceTrip x t a => exact ⟨_, rfl, takeCommand_chain t s fun _ _ => forceTripCommand_leads ..⟩
  | tripStatus x t a => exact ⟨_, rfl, takeCommand_chain t s fun _ _ => tripStatusCommand_leads ..⟩
  | readTime x t a => exact ⟨_, rfl, takeCommand_chain t s fun _ _ => readTimeCommand_leads ..⟩
  | readSync x t a => exact ⟨_, rfl, takeCommand_chain t s fun _ _ => readSyncCommand_leads ..⟩
  | checkClock x t a => exact ⟨_, rfl, takeCommand_chain t s fun _ _ => checkClockCommand_leads ..⟩
  | readClockCheck x t a =>
    exact ⟨_, rfl, takeCommand_chain t s fun _ _ => readClockCheckCommand_leads ..⟩
  | lineTransition n l => exact ⟨_, rfl, lineTransition_chain n l s⟩
  | cadenceExpiry n => exact ⟨_, rfl, cadenceExpiry_chain n s⟩
  | tripinChange l => exact ⟨_, rfl, tripinChange_chain l s⟩
  | syncEdge l => exact ⟨_, rfl, syncEdge_chain l s⟩
  | refclkEdge => exact ⟨_, rfl, refclkEdge_chain s⟩
  | checkTickCountLimit => exact ⟨_, rfl, checkTickCountLimit_chain s⟩
  | settleExpiry => exact ⟨_, rfl, settleExpiry_chain s⟩
  | sampleCompletion raw => exact ⟨_, rfl, sampleCompletion_chain raw s⟩
  | leaseWarning x => exact ⟨_, rfl, leaseWarning_chain x s⟩
  | leaseExpiry x => exact ⟨_, rfl, leaseExpiry_chain x s⟩
  | consentWindowExpiry => exact ⟨_, rfl, consentWindowExpiry_chain s⟩
  | frameBegin x => exact ⟨_, rfl, frameBegin_chain x s⟩
  | resetnRelease l => exact ⟨_, rfl, resetnRelease_chain l s⟩

theorem takeTimer_chain (k : TimerKind) (s : State) : Chain s (takeTimer k s) := by
  cases k with
  | settle => exact settleExpiry_chain s
  | cadence n => exact cadenceExpiry_chain n s
  | warning x => exact leaseWarning_chain x s
  | lease x => exact leaseExpiry_chain x s
  | consent => exact consentWindowExpiry_chain s
  | checkLimit => exact checkTickCountLimit_chain s

theorem takeDue_chain (fuel : Nat) (s : State) : Chain s (takeDue fuel s) := by
  induction fuel generalizing s with
  | zero => exact .refl
  | succ n ih =>
    unfold takeDue
    split
    · exact .refl
    · exact .trans (takeTimer_chain _ s) (ih _)
    · exact .trans ((State.setChoice_chain _ s).trans (takeTimer_chain _ _)) (ih _)

theorem tick_chain (s : State) : Chain s (tick s) := by
  unfold tick
  split
  · exact .refl
  · exact .trans (State.setTmb_chain _ s) (takeDue_chain ..)

/-- Every step is a chain of moves. -/
theorem step_chain {s t : State} (h : step s = .next t) : Chain s t := by
  unfold step at h
  split at h
  · cases h
    exact tick_chain s
  · next c rest _ =>
    obtain ⟨u, hu, moved⟩ := exec_chain c (s.setPending rest)
    rw [hu] at h
    cases h
    exact .trans (State.setPending_chain rest s) moved

/-- A law that every move keeps is kept by every step. -/
theorem step_keeps {P : State → Prop} (h : ∀ s t, Move s t → P s → P t) {s t : State} (hs : P s)
    (e : step s = .next t) : P t := (step_chain e).keeps h hs

end Sys2Proof.Machine
end

section
/-! ## The laws after a reset -/

namespace Sys2Proof.Machine

open Sys2Proof.Safety

namespace Fresh

variable {s : State}

theorem sequence (h : Fresh s) (id : SeqId) : Machine.sequence id s = none := by
  simp [Machine.sequence, h.seq, seqReset]

theorem claimOwner (h : Fresh s) (r : Resource) : Machine.claimOwner r s = none := by
  cases r <;> simp [Machine.claimOwner, h.ses, sesReset]

theorem monitor (h : Fresh s) (i : MonId) : Machine.monitor i s = releasedMonitor := by
  simp [Machine.monitor, h.mon, monReset]

theorem prompt (h : Fresh s) : s.sch.prompt = [] := by
  rcases h.sch with ⟨e, _⟩ | ⟨e, _⟩ <;> rw [e] <;> rfl

theorem urgent (h : Fresh s) : s.sch.urgent = [] := by
  rcases h.sch with ⟨e, _⟩ | ⟨e, _⟩ <;> rw [e] <;> rfl

theorem activeUrgent (h : Fresh s) : s.sch.activeUrgent = none := by
  rcases h.sch with ⟨e, _⟩ | ⟨e, _⟩ <;> rw [e] <;> rfl

theorem activePrompt (h : Fresh s) : s.sch.activePrompt = none := by
  rcases h.sch with ⟨e, _⟩ | ⟨e, _⟩ <;> rw [e] <;> rfl

theorem inFlight (h : Fresh s) : Machine.inFlight s = none := by
  rcases h.sch with ⟨_, e⟩ | ⟨_, e⟩ <;> simp [Machine.inFlight, e]

theorem view_ne_busy (h : Fresh s) (r : Service) : s.sch.view ≠ .busy r := by
  rcases h.sch with ⟨e, _⟩ | ⟨e, _⟩ <;> rw [e] <;> exact nofun

theorem stepsHeld (h : Fresh s) (x : Port) : Machine.stepsHeld x s = 0 := by
  simp [Machine.stepsHeld, h.sequence]

theorem viewAgrees (h : Fresh s) : Safety.viewAgrees s := by
  rcases h.sch with ⟨e, c⟩ | ⟨e, c⟩ <;> simp [Safety.viewAgrees, h.inFlight, e, c, schReset]

theorem queuesBounded (h : Fresh s) : Safety.queuesBounded s := fun x => by
  rw [show resultQueue x s = queueReset by rw [resultQueue, h.res]; cases x <;> rfl]
  exact queueBounded_queueReset

theorem promptBounded (h : Fresh s) : Safety.promptBounded s := by
  simp [Safety.promptBounded, h.prompt]

theorem ownersOpen (h : Fresh s) : Safety.ownersOpen s :=
  ⟨fun r x e => by simp [h.claimOwner] at e, fun id q e => by simp [h.sequence] at e⟩

theorem stepsCounted (h : Fresh s) : Safety.stepsCounted s := by
  have total : s.seq.stepTotal = 0 := by rw [h.seq]; rfl
  have count (x : Port) : s.seq.stepCount.get x = 0 := by rw [h.seq]; cases x <;> rfl
  simp [Safety.stepsCounted, h.stepsHeld, total, count]

theorem copiesAgree (h : Fresh s) : Safety.copiesAgree s := by
  refine ⟨fun c => ?_, fun i => ?_, fun n => ?_, fun c _ => ?_⟩
  · simp [h.cfe, h.ses, cfeReset, sesReset, defaultDescriptor]
  · simp [h.monitor, h.ses, sesReset, releasedMonitor]
  · simp [h.trgOwner, h.ses, sesReset]
  · simp [h.cfe, cfeReset]

theorem monitorsSane (h : Fresh s) : Safety.monitorsSane s := by
  refine ⟨fun i => ?_, fun i _ => h.monitor i⟩
  rw [h.monitor]
  exact ⟨Nat.zero_le _, rfl⟩

theorem requestsAgree (h : Fresh s) : Safety.requestsAgree s := by
  refine ⟨fun id => ?_, fun e id m => ?_⟩
  · simp [requestsOf, h.urgent, h.prompt, h.sequence]
  · simp [h.prompt] at m

theorem channelsHeld (h : Fresh s) : Safety.channelsHeld s :=
  ⟨fun id q st e => by simp [h.sequence] at e, fun i x e => by
    simp [h.monitor, releasedMonitor] at e⟩

theorem bindingsAgree (h : Fresh s) : Safety.bindingsAgree s := by
  simp [Safety.bindingsAgree, h.trgBound, h.sequence]

theorem restartsSane (h : Fresh s) : Safety.restartsSane s := fun id q e => by
  simp [h.sequence] at e

theorem cutsAgree (h : Fresh s) : Safety.cutsAgree s := fun r e => absurd e (h.view_ne_busy r)

theorem passesAgree (h : Fresh s) : Safety.passesAgree s := by
  refine ⟨fun p e => ?_, fun x id e => ?_, fun m k e => ?_, fun r k e => ?_, fun id q e => ?_⟩
  · simp [h.activeUrgent] at e
  · simp [h.activePrompt] at e
  · simp [h.inFlight] at e
  · exact absurd e (h.view_ne_busy r)
  · simp [h.sequence] at e

end Fresh

theorem fresh_reset : Fresh State.reset :=
  ⟨rfl, rfl, .inl ⟨rfl, rfl⟩, rfl, rfl, rfl, rfl, rfl⟩

theorem latchAgrees_reset : latchAgrees State.reset :=
  latchAgrees_of_resetBegin (tpol := .low) (t := .inactive) rfl

theorem alertAgrees_reset : alertAgrees State.reset :=
  alertAgrees_of_quiet fun x => by cases x <;> exact ⟨rfl, rfl⟩

/-- Settles O60: every block of the state after reset holds its reset values. -/
theorem resetMeetsLaws : Obligations.ResetMeetsLaws :=
  have f := fresh_reset
  ⟨f.viewAgrees, f.queuesBounded, f.promptBounded, f.ownersOpen, f.stepsCounted, latchAgrees_reset,
    alertAgrees_reset, f.copiesAgree, f.monitorsSane, f.requestsAgree, f.channelsHeld,
    f.bindingsAgree, f.restartsSane, f.cutsAgree, f.passesAgree⟩

/-! ## Laws of one block: queues, latch and ALERT lines -/

theorem queuesBounded_congr {s t : State} (h : t.res = s.res) (hs : queuesBounded s) :
    queuesBounded t := by
  unfold queuesBounded resultQueue at *
  rwa [h]

theorem latchAgrees_congr {s t : State} (h : t.trp = s.trp) (hs : latchAgrees s) :
    latchAgrees t := by
  unfold latchAgrees at *
  rwa [h]

theorem alertAgrees_congr {s t : State} (h : t.host = s.host) (hs : alertAgrees s) :
    alertAgrees t := by
  unfold alertAgrees hostPort at *
  rwa [h]

theorem Move.keeps_queuesBounded {s t : State} (h : Move s t) (hs : queuesBounded s) :
    queuesBounded t := by
  cases h with
  | report k => exact k.queues hs
  | reset f _ _ => exact f.queuesBounded
  | teardown d => exact queuesBounded_congr d.res hs
  | _ => exact queuesBounded_congr rfl hs

theorem Move.keeps_latchAgrees {s t : State} (h : Move s t) (hs : latchAgrees s) :
    latchAgrees t := by
  cases h with
  | report k => exact k.latch hs
  | reset _ hl _ => exact hl hs
  | teardown d => exact latchAgrees_congr d.trp hs
  | _ => exact latchAgrees_congr rfl hs

theorem Move.keeps_alertAgrees {s t : State} (h : Move s t) (hs : alertAgrees s) :
    alertAgrees t := by
  cases h with
  | report k => exact k.alert hs
  | reset _ _ ha => exact ha
  | teardown d => exact alertAgrees_congr d.host hs
  | _ => exact alertAgrees_congr rfl hs

/-- Settles O57: only reports and resets reach the latch and the host ports, and each keeps the
law. -/
theorem linesAgreeKept : Obligations.LinesAgreeKept :=
  ⟨fun _ _ hs => step_keeps (fun _ _ m => m.keeps_latchAgrees) hs,
    fun _ _ hs => step_keeps (fun _ _ m => m.keeps_alertAgrees) hs⟩

/-! ## The prompt queue -/

theorem promptBounded_of_sublist {s t : State} (h : t.sch.prompt.Sublist s.sch.prompt)
    (hs : promptBounded s) : promptBounded t :=
  ⟨h.length_le.trans hs.1, fun x => (h.countP_le (p := fun e => e.port == x)).trans (hs.2 x)⟩

theorem promptBounded_congr {s t : State} (h : t.sch.prompt = s.sch.prompt)
    (hs : promptBounded s) : promptBounded t := promptBounded_of_sublist (h ▸ .refl _) hs

theorem promptFull_eq_false {x : Port} {s : State} : promptFull x s = false
    ↔ s.sch.prompt.length < 8 ∧ (s.sch.prompt.countP fun e => e.port == x) < 4 := by
  simp only [promptFull, Bool.or_eq_false_iff, decide_eq_false_iff_not, not_le]
  rfl

/-- A port that finds room for a request keeps the capacities of R57. -/
theorem promptBounded_append {s t : State} {e : PromptEntry} (hf : promptFull e.port s = false)
    (h : t.sch.prompt = s.sch.prompt ++ [e]) (hs : promptBounded s) : promptBounded t := by
  obtain ⟨hn, hx⟩ := hs
  obtain ⟨room, quota⟩ := promptFull_eq_false.mp hf
  refine ⟨?_, fun x => ?_⟩ <;> rw [h]
  · simp only [List.length_append, List.length_singleton]
    omega
  · by_cases hp : e.port = x
    · subst hp
      rw [List.countP_append, List.countP_singleton]
      simp only [beq_self_eq_true, if_true]
      omega
    · simpa [List.countP_append, hp] using hx x

theorem withdraw_prompt (id : SeqId) (st : SeqState) (s : State) :
    (withdraw id st s).sch.prompt.Sublist s.sch.prompt := by
  cases st with
  | pending => exact List.filter_sublist
  | _ => exact .refl _

theorem passUpkeep_prompt (cls : Option WorkClass) (b : Bool) (s : State) :
    (passUpkeep cls b s).sch.prompt = s.sch.prompt := by
  unfold passUpkeep
  repeat' split
  all_goals rfl

theorem Work.keeps_promptBounded {s : State} {c : Converter} {q : SeqUnit} {k : Scheduler}
    (h : Work s c q k) (hs : promptBounded s) : promptBounded (worked c q k s) := by
  cases h with
  | stopPending => exact promptBounded_of_sublist List.filter_sublist hs
  | halt id q _ => exact promptBounded_of_sublist (withdraw_prompt ..) hs
  | run _ _ _ _ _ hf => exact promptBounded_append hf rfl hs
  | requestNow x c n hf => exact promptBounded_append (e := ⟨x, .immediate c n⟩) hf rfl hs
  | popPrompt e rest _ hp =>
    exact promptBounded_of_sublist (by rw [hp]; exact List.sublist_cons_self ..) hs
  | complete => exact promptBounded_congr (passUpkeep_prompt (serviceClass s) _ s) hs
  | _ => exact promptBounded_congr rfl hs

theorem Move.keeps_promptBounded {s t : State} (h : Move s t) (hs : promptBounded s) :
    promptBounded t := by
  cases h with
  | work w => exact w.keeps_promptBounded hs
  | teardown d => exact promptBounded_of_sublist (d.prompt ▸ List.filter_sublist) hs
  | reset f _ _ => exact f.promptBounded
  | _ => exact promptBounded_congr rfl hs

/-- Settles O54: an append stays within the queue, and a prompt request is made only where the port
finds room. -/
theorem capacitiesKept : Obligations.CapacitiesKept :=
  ⟨fun _ _ hs => step_keeps (fun _ _ m => m.keeps_queuesBounded) hs,
    fun _ _ hs => step_keeps (fun _ _ m => m.keeps_promptBounded) hs⟩

end Sys2Proof.Machine
end

section
/-! ## What sequences are made with

Conversion work rewrites table entries, but never what a sequence was made with: its owner, kind and
steps. The laws on owners, on the step store and on bindings see no more of an entry than that. -/

namespace Sys2Proof.Machine

open Sys2Proof.Safety

/-- What DEFINE_SEQUENCE gives a sequence for good. -/
def Sequence.make (q : Sequence) : Port × SeqKind × List SeqStep := (q.owner, q.kind, q.steps)

theorem Sequence.make_eq {q q' : Sequence} (h : q'.make = q.make) :
    q'.owner = q.owner ∧ q'.kind = q.kind ∧ q'.steps = q.steps := by
  simpa [make] using h

/-- A sequence on which a pass or a measurement in flight may run (R57). -/
def Sequence.Live (q : Sequence) : Prop := q.state = .running ∨ q.state = .stopping

/-- What a completion of step `i` does to the entry (R38): only a live sequence moves on, by a step
or past the end of its pass, where a CONTINUOUS one alone starts another. -/
theorem Sequence.afterStep_cases (q : Sequence) (i : Nat) :
    q.afterStep i = q
      ∨ q.Live ∧ q.isLast i = false ∧ q.afterStep i = { q with index := i + 1, restarts := 0 }
      ∨ q.Live ∧ q.isLast i = true ∧ ∃ state pass misses,
        q.afterStep i = { q with
          state := state, pass := pass, index := 0, restarts := 0, misses := misses }
        ∧ (state = .running ∧ q.kind = .continuous ∨ state = .armed ∧ q.kind ≠ .continuous
          ∨ state = .defined) := by
  unfold afterStep Live
  cases last : q.isLast i with
  | false => cases hs : q.state <;> simp
  | true =>
    cases hs : q.state with
    | running => cases hk : q.kind <;> simp [startPass]
    | stopping => simp [toDefined]
    | _ => simp

theorem Sequence.make_afterStep (q : Sequence) (i : Nat) : (q.afterStep i).make = q.make := by
  obtain e | ⟨_, _, e⟩ | ⟨_, _, _, _, _, e, _⟩ := q.afterStep_cases i <;> rw [e] <;> rfl

/-- Two tables whose sequences are made alike, entry by entry. -/
def MadeAlike (s t : State) : Prop :=
  ∀ id, (sequence id t).map Sequence.make = (sequence id s).map Sequence.make

/-- The entries of a state in whose table one entry was replaced. -/
theorem sequence_put {s t : State} {id : SeqId} {v : Option Sequence} (h : t.seq = s.seq.put id v)
    (j : SeqId) : sequence j t = if j = id then v else sequence j s := by
  simp only [sequence, h, SeqUnit.put]
  exact tget_tset ..

theorem sequence_updateSequence (id j : SeqId) (f : Sequence → Sequence) (s : State) :
    sequence j (updateSequence id f s) = if j = id then (sequence id s).map f else sequence j s :=
  sequence_put (s := s) rfl j

/-- The entries of a state in which the entry of a step reference was rewritten. -/
theorem sequence_rewritten {s t : State} {r : Option StepRef} {f : StepRef → Sequence → Sequence}
    (h : t.seq = rewritten r f s) (j : SeqId) : sequence j t
      = (sequence j s).map fun q => r.elim q fun k => if j = k.seq then f k q else q := by
  cases r with
  | none =>
    have e : sequence j t = sequence j s := by simp only [sequence, h]; rfl
    simp [e]
  | some k =>
    have e : sequence j t = sequence j (updateSequence k.seq (f k) s) := by
      simp only [sequence, h]; rfl
    rw [e, sequence_updateSequence]
    by_cases hj : j = k.seq <;> simp [hj]

theorem madeAlike_put {s t : State} {id : SeqId} {q q' : Sequence}
    (h : t.seq = s.seq.put id (some q')) (hq : sequence id s = some q) (hm : q'.make = q.make) :
    MadeAlike s t := fun j => by
  rw [sequence_put h]
  split
  · next e => simp [e, hq, hm]
  · rfl

theorem madeAlike_rewritten {s t : State} {r : Option StepRef}
    {f : StepRef → Sequence → Sequence} (h : t.seq = rewritten r f s)
    (hf : ∀ k q, (f k q).make = q.make) : MadeAlike s t := fun j => by
  rw [sequence_rewritten h, Option.map_map]
  congr 1
  funext q
  cases r with
  | none => rfl
  | some k =>
    by_cases hj : j = k.seq <;> simp [hj, hf]

theorem madeAlike_startPromptPass {e : PromptEntry} {s t : State}
    (h : t.seq = (startPromptPass e s).seq) : MadeAlike s t := by
  obtain ⟨x, item⟩ := e
  cases item with
  | sequence id =>
    exact madeAlike_rewritten (r := some ⟨id, 0⟩) (f := fun _ => Sequence.startPass) h
      (fun _ _ => rfl)
  | immediate c n => intro j; simp only [sequence, h]; rfl

theorem Work.madeAlike {s : State} {c : Converter} {q : SeqUnit} {k : Scheduler}
    (h : Work s c q k) : MadeAlike s (worked c q k s) := by
  cases h with
  | entry id q q' hq h =>
    exact madeAlike_put rfl hq (by simp [Sequence.make, h.owner, h.kind, h.steps])
  | stopPending id q hq => exact madeAlike_put rfl hq rfl
  | halt id q hq => exact madeAlike_put rfl hq rfl
  | run id q hq => exact madeAlike_put rfl hq rfl
  | arrive e q hq => exact madeAlike_put rfl hq rfl
  | popUrgent e rest q _ _ hq => exact madeAlike_put rfl hq rfl
  | popPrompt e => exact madeAlike_startPromptPass rfl
  | cut m => exact madeAlike_rewritten rfl fun _ _ => rfl
  | complete m o => exact madeAlike_rewritten rfl fun k q => q.make_afterStep k.index
  | _ => exact fun _ => rfl

/-- Conversion work allocates nothing. -/
theorem Work.counts {s : State} {c : Converter} {q : SeqUnit} {k : Scheduler} (h : Work s c q k) :
    q.stepTotal = s.seq.stepTotal ∧ q.stepCount = s.seq.stepCount := by
  have rewrites (r : Option StepRef) (f : StepRef → Sequence → Sequence) :
      (rewritten r f s).stepTotal = s.seq.stepTotal
        ∧ (rewritten r f s).stepCount = s.seq.stepCount := by cases r <;> exact ⟨rfl, rfl⟩
  cases h with
  | popPrompt e =>
    obtain ⟨x, item⟩ := e
    cases item <;> exact ⟨rfl, rfl⟩
  | cut => exact rewrites ..
  | complete => exact rewrites ..
  | _ => exact ⟨rfl, rfl⟩

theorem MadeAlike.symm {s t : State} (h : MadeAlike s t) : MadeAlike t s := fun id => (h id).symm

/-- An entry has its like in the other table. -/
theorem MadeAlike.origin {s t : State} (h : MadeAlike s t) {id : SeqId} {q : Sequence}
    (hq : sequence id t = some q) : ∃ q0, sequence id s = some q0 ∧ q0.make = q.make := by
  have e := h id
  rw [hq, Option.map_some] at e
  exact Option.map_eq_some_iff.mp e.symm

/-! ### Law 5: owners have OPEN sessions -/

theorem ownersOpen_of_madeAlike {s t : State} (h : MadeAlike s t) (hs : t.ses = s.ses)
    (ho : ownersOpen s) : ownersOpen t := by
  refine ⟨fun r x e => ?_, fun id q e => ?_⟩
  · have same : claimOwner r t = claimOwner r s := by cases r <;> simp [claimOwner, hs]
    simpa [sessionOpen, session, hs] using ho.1 r x (same ▸ e)
  · obtain ⟨q0, e0, m⟩ := h.origin e
    have open0 := ho.2 id q0 e0
    rw [(Sequence.make_eq m).1] at open0
    simpa [sessionOpen, session, hs] using open0

/-- The owner of a resource after resource `r` passed to `o`. -/
theorem claimOwner_reowned (r r' : Resource) (o : Option Port) (s : State) :
    claimOwner r' (reowned r o s) = if r = r' then o else claimOwner r' s := by
  cases r <;> cases r' <;>
    simp [reowned, setClaims, claimOwner, ClaimTable.setOwner, tget_tset, eq_comm]

theorem session_setSession {x y : Port} {v : Session} {s : State} :
    session y (setSession x v s) = if y = x then v else session y s := PerPort.get_set ..

theorem Move.keeps_ownersOpen {s t : State} (h : Move s t) (hs : ownersOpen s) : ownersOpen t := by
  have alike {u : State} (e : u.seq = s.seq) (k : u.ses = s.ses) : ownersOpen u :=
    ownersOpen_of_madeAlike (fun id => by simp [sequence, e]) k hs
  cases h with
  | report => exact alike rfl rfl
  | work w => exact ownersOpen_of_madeAlike w.madeAlike rfl hs
  | clock => exact alike rfl rfl
  | consent => exact hs
  | lease x l =>
    have opened (y : Port) (e : sessionOpen y s = true) :
        sessionOpen y (setSession x (.opened l) s) = true := by
      unfold sessionOpen at e ⊢
      rw [session_setSession]
      by_cases hy : y = x
      · rw [if_pos hy]
      · rwa [if_neg hy]
    exact ⟨fun r y e => opened y (hs.1 r y e), fun id q e => opened _ (hs.2 id q e)⟩
  | lines => exact alike rfl rfl
  | write => exact alike rfl rfl
  | grant r x _ _ ho =>
    refine ⟨fun r' y e => ?_, hs.2⟩
    rw [claimOwner_reowned] at e
    split at e
    · cases e
      exact ho
    · exact hs.1 r' y e
  | release r x _ _ =>
    refine ⟨fun r' y e => ?_, hs.2⟩
    rw [claimOwner_reowned] at e
    split at e
    · cases e
    · exact hs.1 r' y e
  | monitor => exact alike rfl rfl
  | define x id k steps _ _ _ _ hx =>
    refine ⟨hs.1, fun j q e => ?_⟩
    change tget (tset s.seq.table id _) j = some q at e
    rw [tget_tset] at e
    split at e
    · cases e
      exact hx
    · exact hs.2 j q e
  | delete id q =>
    refine ⟨hs.1, fun j q e => ?_⟩
    change tget (tset s.seq.table id _) j = some q at e
    rw [tget_tset] at e
    split at e
    · cases e
    · exact hs.2 j q e
  | @teardown x v _ d =>
    have others {y : Port} (hy : y ≠ x) (e : sessionOpen y s = true) : sessionOpen y t = true := by
      unfold sessionOpen at e ⊢
      rwa [d.session, if_neg hy]
    refine ⟨fun r y e => ?_, fun id q e => ?_⟩
    · rw [d.claim] at e
      split at e
      · cases e
      · next hy => exact others (fun eq => hy (eq ▸ e)) (hs.1 r y e)
    · rw [d.sequence, Option.filter_eq_some_iff] at e
      exact others (by simpa using e.2) (hs.2 id q e.1)
  | reset f => exact f.ownersOpen

/-- Settles O55: a claim and a definition need an OPEN session, and the session's end frees all that
its port owns. -/
theorem ownersOpenKept : Obligations.OwnersOpenKept :=
  fun _ _ hs => step_keeps (fun _ _ m => m.keeps_ownersOpen) hs

/-! ### Law 7: the step store -/

/-- The steps that an entry holds for port `x`. -/
def entrySteps (x : Port) : Option Sequence → Nat
  | some q => if q.owner = x then q.steps.length else 0
  | none => 0

theorem stepsHeld_eq (x : Port) (s : State) :
    stepsHeld x s = (allSeqs.map fun id => entrySteps x (sequence id s)).sum := rfl

theorem entrySteps_congr (x : Port) {a b : Option Sequence}
    (h : a.map Sequence.make = b.map Sequence.make) : entrySteps x a = entrySteps x b := by
  cases a <;> cases b <;> simp_all [Sequence.make, entrySteps]

theorem stepsHeld_of_madeAlike {s t : State} (h : MadeAlike s t) (x : Port) :
    stepsHeld x t = stepsHeld x s := by
  rw [stepsHeld_eq, stepsHeld_eq]
  exact congrArg List.sum (List.map_congr_left fun id _ => entrySteps_congr x (h id))

/-- One entry replaced changes the sum by the difference of its steps. -/
theorem stepsHeld_put {s t : State} {id : SeqId} {v : Option Sequence}
    (h : t.seq.table = tset s.seq.table id v) (x : Port) :
    stepsHeld x t + entrySteps x (sequence id s) = stepsHeld x s + entrySteps x v := by
  have entry (j : SeqId) : sequence j t = if j = id then v else sequence j s := by
    simp only [sequence, h]
    exact tget_tset ..
  have split (u : State) :=
    List.sum_map_erase (fun j => entrySteps x (sequence j u)) (mem_allSeqs id)
  have rest : (allSeqs.erase id).map (fun j => entrySteps x (sequence j t))
      = (allSeqs.erase id).map fun j => entrySteps x (sequence j s) := by
    refine List.map_congr_left fun j hj => ?_
    rw [entry, if_neg]
    rintro rfl
    exact List.Nodup.not_mem_erase (by decide) hj
  rw [stepsHeld_eq, stepsHeld_eq, ← split t, ← split s, rest, entry, if_pos rfl]
  omega

/-- Law 7 does not depend on which port is named first. -/
theorem stepsHeld_total (x : Port) (s : State) :
    stepsHeld .A s + stepsHeld .B s = stepsHeld x s + stepsHeld (otherPort x) s := by
  cases x with
  | A => rfl
  | B => exact Nat.add_comm ..

theorem stepsCounted_of_madeAlike {s t : State} (h : MadeAlike s t)
    (ht : t.seq.stepTotal = s.seq.stepTotal) (hc : t.seq.stepCount = s.seq.stepCount)
    (hs : stepsCounted s) : stepsCounted t := by
  unfold stepsCounted
  simp only [stepsHeld_of_madeAlike h, ht, hc]
  exact hs

/-- Law 7 after the count of port `x` became `n`, with the other port's as it was. -/
theorem stepsCounted_of_count {s t : State} {x : Port} {n : Nat}
    (hother : stepsHeld (otherPort x) t = stepsHeld (otherPort x) s) (hx : stepsHeld x t = n)
    (hc : t.seq.stepCount = s.seq.stepCount.set x n)
    (ht : t.seq.stepTotal = n + stepsHeld (otherPort x) s) (hn : n ≤ 96)
    (htotal : t.seq.stepTotal ≤ 128) (hs : stepsCounted s) : stepsCounted t := by
  obtain ⟨_, counted, _, bounded⟩ := hs
  have count (y : Port) : t.seq.stepCount.get y = stepsHeld y t ∧ t.seq.stepCount.get y ≤ 96 := by
    rw [hc]
    by_cases hy : y = x
    · subst hy
      simp [hx, hn]
    · rw [PerPort.get_set_ne _ _ hy, eq_otherPort_of_ne hy, hother]
      exact ⟨counted _, bounded _⟩
  refine ⟨?_, fun y => (count y).1, htotal, fun y => (count y).2⟩
  rw [stepsHeld_total x, ht, hx, hother]

theorem noRoom_eq_false {x : Port} {n : Nat} {s : State} (h : noRoom x n s = false) :
    s.seq.stepTotal + n ≤ 128 ∧ s.seq.stepCount.get x + n ≤ 96 := by
  simp only [noRoom, Bool.or_eq_false_iff, decide_eq_false_iff_not, not_lt] at h
  exact ⟨h.1.2, h.2⟩

/-- A definition adds its steps to the total and to its owner's count. -/
theorem stepsCounted_define {s t : State} {id : SeqId} {q : Sequence} (hid : sequence id s = none)
    (hr : noRoom q.owner q.steps.length s = false)
    (table : t.seq.table = tset s.seq.table id (some q))
    (total : t.seq.stepTotal = s.seq.stepTotal + q.steps.length)
    (count : t.seq.stepCount
      = s.seq.stepCount.set q.owner (s.seq.stepCount.get q.owner + q.steps.length))
    (hs : stepsCounted s) : stepsCounted t := by
  obtain ⟨roomTotal, roomPort⟩ := noRoom_eq_false hr
  have ⟨sum, counted, _, _⟩ := hs
  have own := stepsHeld_put table q.owner
  have other := stepsHeld_put table (otherPort q.owner)
  simp only [hid, entrySteps, if_true, ne_otherPort, if_false, Nat.add_zero] at own other
  rw [stepsHeld_total q.owner] at sum
  have port := counted q.owner
  exact stepsCounted_of_count other rfl (by rw [count, own, port]) (by omega) (by omega)
    (by omega) hs

/-- A deletion takes its steps off again. -/
theorem stepsCounted_delete {s t : State} {id : SeqId} {q : Sequence}
    (hq : sequence id s = some q) (table : t.seq.table = tset s.seq.table id none)
    (total : t.seq.stepTotal = s.seq.stepTotal - q.steps.length)
    (count : t.seq.stepCount
      = s.seq.stepCount.set q.owner (s.seq.stepCount.get q.owner - q.steps.length))
    (hs : stepsCounted s) : stepsCounted t := by
  have ⟨sum, counted, small, bounded⟩ := hs
  have own := stepsHeld_put table q.owner
  have other := stepsHeld_put table (otherPort q.owner)
  simp only [hq, entrySteps, if_true, ne_otherPort, if_false, Nat.add_zero] at own other
  rw [stepsHeld_total q.owner] at sum
  have port := counted q.owner
  have small' := bounded q.owner
  have eq : s.seq.stepCount.get q.owner - q.steps.length = stepsHeld q.owner t := by omega
  exact stepsCounted_of_count other rfl (by rw [count, eq]) (by omega) (by omega) (by omega) hs

theorem entrySteps_filter (x y : Port) (e : Option Sequence) :
    entrySteps y (e.filter fun q => q.owner != x) = if y = x then 0 else entrySteps y e := by
  cases e with
  | none => simp [entrySteps]
  | some q =>
    by_cases hq : q.owner = x
    · subst hq
      simp only [bne_self_eq_false, Option.filter_some_neg, entrySteps, eq_comm (a := y)]
      split <;> rfl
    · rw [Option.filter_some_pos (by simpa using hq)]
      split
      · next hy => simp [entrySteps, hy, hq]
      · rfl

/-- The end of a session frees all the steps of its port and no other. -/
theorem TornDown.stepsHeld {x : Port} {v : Session} {s t : State} (d : TornDown x v s t)
    (y : Port) : stepsHeld y t = if y = x then 0 else stepsHeld y s := by
  rw [stepsHeld_eq, stepsHeld_eq]
  simp only [d.sequence, entrySteps_filter]
  split <;> simp

theorem TornDown.keeps_stepsCounted {x : Port} {v : Session} {s t : State} (d : TornDown x v s t)
    (hs : stepsCounted s) : stepsCounted t := by
  have ⟨sum, _, small, _⟩ := hs
  rw [stepsHeld_total x] at sum
  have total := d.stepTotal
  exact stepsCounted_of_count (by simp [d.stepsHeld]) (by simp [d.stepsHeld]) d.stepCount
    (by omega) (by omega) (by omega) hs

theorem Move.keeps_stepsCounted {s t : State} (h : Move s t) (hs : stepsCounted s) :
    stepsCounted t := by
  cases h with
  | work w => exact stepsCounted_of_madeAlike w.madeAlike w.counts.1 w.counts.2 hs
  | define x id k steps hid _ _ hr _ => exact stepsCounted_define hid hr rfl rfl rfl hs
  | delete id q hq hd => exact stepsCounted_delete hq rfl rfl rfl hs
  | teardown d => exact d.keeps_stepsCounted hs
  | reset f => exact f.stepsCounted
  | _ => exact stepsCounted_of_madeAlike (fun _ => rfl) rfl rfl hs

/-- Settles O56: a definition and a deletion count the steps of the one entry they change; a
session's end counts those of its port. -/
theorem stepsCountedKept : Obligations.StepsCountedKept :=
  fun _ _ hs => step_keeps (fun _ _ m => m.keeps_stepsCounted) hs

end Sys2Proof.Machine
end

section
/-! ## Owner copies, bindings and monitors -/

namespace Sys2Proof.Machine

open Sys2Proof.Safety

/-! ### A resource that passes from hand to hand -/

theorem tget_reowned_cfe (r : Resource) (o : Option Port) (s : State) (c : ExtChannel) :
    tget (reowned r o s).cfe c = if r = .channel c
      then o.elim defaultDescriptor fun x => { tget s.cfe c with owner := some x }
      else tget s.cfe c := by
  change tget (ownedCfe r o s.cfe) c = _
  cases r with
  | channel d =>
    simp only [ownedCfe, tget_tset, Resource.channel.injEq]
    by_cases h : c = d
    · simp [h]
    · simp [h, Ne.symm h]
  | monitor i => rfl
  | source n => rfl

theorem monitor_reowned (r : Resource) (o : Option Port) (s : State) (i : MonId) :
    monitor i (reowned r o s) = if r = .monitor i
      then o.elim releasedMonitor fun x => { monitor i s with owner := some x }
      else monitor i s := by
  change tget (ownedMon r o s.mon) i = _
  cases r with
  | channel d => rfl
  | monitor j =>
    simp only [ownedMon, tget_tset, Resource.monitor.injEq]
    by_cases h : i = j
    · simp [h, monitor]
    · simp [h, Ne.symm h, monitor]
  | source n => rfl

theorem releaseSourceSettings_bound (n : SourceId) (t : TriggerUnit) :
    (releaseSourceSettings n t).bound = t.bound := by
  unfold releaseSourceSettings
  split <;> rfl

theorem reowned_bound (r : Resource) (o : Option Port) (s : State) :
    (reowned r o s).trg.bound = s.trg.bound := by
  change (ownedTrg r o s.trg).bound = _
  cases r with
  | channel c => rfl
  | monitor i => rfl
  | source n =>
    cases o with
    | none => exact releaseSourceSettings_bound n s.trg
    | some x => rfl

theorem tget_reowned_owner (r : Resource) (o : Option Port) (s : State) (n : SourceId) :
    tget (reowned r o s).trg.owner n = if r = .source n then o else tget s.trg.owner n := by
  change tget (ownedTrg r o s.trg).owner n = _
  cases r with
  | channel c => rfl
  | monitor i => rfl
  | source m =>
    simp only [ownedTrg, tget_tset, Resource.source.injEq, eq_comm (a := n)]

/-! ### Owner copies (R4, R135) -/

theorem copiesAgree_congr {s t : State} (hc : t.cfe = s.cfe) (hm : t.mon = s.mon)
    (ho : t.trg.owner = s.trg.owner) (hs : t.ses.claims = s.ses.claims) (h : copiesAgree s) :
    copiesAgree t := by
  unfold copiesAgree monitor at *
  rwa [hc, hm, ho, hs]

theorem copiesAgree_reowned {r : Resource} {o : Option Port} {s : State} (h : copiesAgree s) :
    copiesAgree (reowned r o s) := by
  obtain ⟨channels, monitors, sources, defaults⟩ := h
  refine ⟨fun c => ?_, fun i => ?_, fun n => ?_, fun c => ?_⟩
  · change _ = claimOwner (.channel c) (reowned r o s)
    rw [tget_reowned_cfe, claimOwner_reowned]
    split
    · cases o <;> rfl
    · exact channels c
  · change _ = claimOwner (.monitor i) (reowned r o s)
    rw [monitor_reowned, claimOwner_reowned]
    split
    · cases o <;> rfl
    · exact monitors i
  · change _ = claimOwner (.source n) (reowned r o s)
    rw [tget_reowned_owner, claimOwner_reowned]
    split
    · rfl
    · exact sources n
  · rw [tget_reowned_cfe]
    split
    · cases o with
      | none => exact fun _ => rfl
      | some x => exact nofun
    · exact defaults c

theorem TornDown.keeps_copiesAgree {x : Port} {v : Session} {s t : State} (d : TornDown x v s t)
    (h : copiesAgree s) : copiesAgree t := by
  obtain ⟨channels, monitors, sources, defaults⟩ := h
  refine ⟨fun c => ?_, fun i => ?_, fun n => ?_, fun c => ?_⟩
  · have claim := d.claim (.channel c)
    change tget t.ses.claims.channel c = _ at claim
    rw [d.cfe, claim]
    by_cases mine : tget s.ses.claims.channel c = some x
    · simp [claimOwner, mine, defaultDescriptor]
    · simpa [claimOwner, mine] using channels c
  · have claim := d.claim (.monitor i)
    change tget t.ses.claims.monitor i = _ at claim
    rw [d.mon, claim]
    by_cases mine : tget s.ses.claims.monitor i = some x
    · simp [claimOwner, mine, releasedMonitor]
    · simpa [claimOwner, mine] using monitors i
  · have claim := d.claim (.source n)
    change tget t.ses.claims.source n = _ at claim
    rw [d.owner, claim]
    by_cases mine : tget s.ses.claims.source n = some x
    · simp [claimOwner, mine]
    · simpa [claimOwner, mine] using sources n
  · rw [d.cfe]
    split
    · exact fun _ => rfl
    · exact defaults c

theorem bindKind_owner (k : SeqKind) (id : SeqId) (s : State) :
    (bindKind k id s).trg.owner = s.trg.owner := by cases k <;> rfl

theorem unbindKind_owner (k : SeqKind) (s : State) :
    (unbindKind k s).trg.owner = s.trg.owner := by cases k <;> rfl

theorem Move.keeps_copiesAgree {s t : State} (h : Move s t) (hs : copiesAgree s) :
    copiesAgree t := by
  cases h with
  | report k =>
    obtain ⟨channels, monitors, sources, defaults⟩ := hs
    exact ⟨channels, fun i => (k.monitors i).owner.trans (monitors i), sources, defaults⟩
  | write x c range mode settle ho _ =>
    obtain ⟨channels, monitors, sources, defaults⟩ := hs
    refine ⟨fun d => ?_, monitors, sources, fun d => ?_⟩ <;>
      rw [State.setCfe_cfe, tget_tset] <;> split
    · next e =>
      subst e
      exact channels d
    · exact channels d
    · next e =>
      intro none
      change (tget s.cfe c).owner = _ at none
      rw [ho] at none
      cases none
    · exact defaults d
  | grant => exact copiesAgree_reowned hs
  | release => exact copiesAgree_reowned hs
  | monitor x i m ho hm _ _ =>
    obtain ⟨channels, monitors, sources, defaults⟩ := hs
    refine ⟨channels, fun j => ?_, sources, defaults⟩
    change (tget (tset s.mon i m) j).owner = _
    rw [tget_tset]
    split
    · next e =>
      subst e
      exact (hm.trans ho.symm).trans (monitors j)
    · exact monitors j
  | define x id k => exact copiesAgree_congr (s := s) rfl rfl (bindKind_owner k id s) rfl hs
  | delete id q => exact copiesAgree_congr (s := s) rfl rfl (unbindKind_owner q.kind s) rfl hs
  | teardown d => exact d.keeps_copiesAgree hs
  | reset f => exact f.copiesAgree
  | _ => exact copiesAgree_congr rfl rfl rfl rfl hs

/-! ### Law 8: bindings -/

/-- The source that a kind names, for a TRIGGERED sequence. -/
def SeqKind.source : SeqKind → Option SourceId
  | .triggered n _ => some n
  | .keyed => none
  | .continuous => none

theorem SeqKind.source_eq_some {k : SeqKind} {n : SourceId} :
    k.source = some n ↔ ∃ b, k = .triggered n b := by
  cases k <;> simp [source]

/-- The source that the sequence of an entry is TRIGGERED on. -/
def triggeredOn (id : SeqId) (s : State) : Option SourceId :=
  (sequence id s).bind fun q => q.kind.source

theorem triggeredOn_eq_some {id : SeqId} {s : State} {n : SourceId} : triggeredOn id s = some n
    ↔ ∃ q b, sequence id s = some q ∧ q.kind = .triggered n b := by
  simp [triggeredOn, Option.bind_eq_some_iff, SeqKind.source_eq_some]

theorem bindingsAgree_iff (s : State) : bindingsAgree s
    ↔ (∀ n id, tget s.trg.bound n = some id ↔ triggeredOn id s = some n)
      ∧ ∀ n id q, tget s.trg.bound n = some id → sequence id s = some q →
        tget s.trg.owner n = some q.owner := by
  simp only [bindingsAgree, triggeredOn_eq_some]

theorem MadeAlike.triggeredOn {s t : State} (h : MadeAlike s t) (id : SeqId) :
    triggeredOn id t = triggeredOn id s := by
  have e := h id
  unfold Machine.triggeredOn
  cases hs : sequence id s <;> cases ht : sequence id t <;> simp_all [Sequence.make]

theorem bindingsAgree_of_madeAlike {s t : State} (h : MadeAlike s t)
    (hb : t.trg.bound = s.trg.bound) (ho : t.trg.owner = s.trg.owner) (hs : bindingsAgree s) :
    bindingsAgree t := by
  rw [bindingsAgree_iff] at hs ⊢
  simp only [h.triggeredOn, hb, ho]
  refine ⟨hs.1, fun n id q e hq => ?_⟩
  obtain ⟨q0, hq0, m⟩ := h.origin hq
  rw [← (Sequence.make_eq m).1]
  exact hs.2 n id q0 e hq0

theorem tget_bindKind (k : SeqKind) (id : SeqId) (s : State) (n : SourceId) :
    tget (bindKind k id s).trg.bound n
      = if k.source = some n then some id else tget s.trg.bound n := by
  cases k with
  | triggered m b =>
    simp only [SeqKind.source, Option.some.injEq, eq_comm (a := m)]
    exact tget_tset ..
  | keyed => rfl
  | continuous => rfl

theorem tget_unbindKind (k : SeqKind) (s : State) (n : SourceId) :
    tget (unbindKind k s).trg.bound n
      = if k.source = some n then none else tget s.trg.bound n := by
  cases k with
  | triggered m b =>
    simp only [SeqKind.source, Option.some.injEq, eq_comm (a := m)]
    exact tget_tset ..
  | keyed => rfl
  | continuous => rfl

/-- A new sequence binds the source it names, which was free and its owner's (R77). -/
theorem bindingsAgree_define {s t : State} {id : SeqId} {q : Sequence} (hid : sequence id s = none)
    (ho : sourceOwned q.owner q.kind s = true) (hb : sourceBound q.kind s = false)
    (entries : ∀ j, sequence j t = if j = id then some q else sequence j s)
    (owners : t.trg.owner = s.trg.owner)
    (bounds : ∀ n, tget t.trg.bound n
      = if q.kind.source = some n then some id else tget s.trg.bound n)
    (hs : bindingsAgree s) : bindingsAgree t := by
  rw [bindingsAgree_iff] at hs ⊢
  obtain ⟨binds, owned⟩ := hs
  have none_bound {n} (e : q.kind.source = some n) : tget s.trg.bound n = none := by
    obtain ⟨b, e⟩ := SeqKind.source_eq_some.mp e
    simpa [e, sourceBound] using hb
  have none_binds (n : SourceId) : tget s.trg.bound n ≠ some id := fun e => by
    obtain ⟨q, _, hq, _⟩ := triggeredOn_eq_some.mp ((binds n id).mp e)
    simp [hid] at hq
  have source (j : SeqId) :
      triggeredOn j t = if j = id then q.kind.source else triggeredOn j s := by
    unfold triggeredOn
    rw [entries]
    split <;> rfl
  refine ⟨fun n j => ?_, fun n j p e hp => ?_⟩
  · rw [bounds, source]
    by_cases hj : j = id
    · subst hj
      by_cases hn : q.kind.source = some n <;> simp [hn, none_binds]
    · by_cases hn : q.kind.source = some n
      · have free := none_bound hn
        simp only [hn, hj, if_true, if_false, Option.some.injEq, Ne.symm hj, false_iff]
        rw [← binds, free]
        exact nofun
      · simp only [hn, hj, if_false]
        exact binds n j
  · rw [bounds] at e
    rw [entries] at hp
    rw [owners]
    split at e
    · next hn =>
      cases e
      rw [if_pos rfl] at hp
      cases hp
      obtain ⟨b, k⟩ := SeqKind.source_eq_some.mp hn
      simpa [k, sourceOwned] using ho
    · split at hp
      · next hj => exact absurd (hj ▸ e) (none_binds n)
      · exact owned n j p e hp

/-- A freed sequence leaves its source unbound (R77). -/
theorem bindingsAgree_delete {s t : State} {id : SeqId} {q : Sequence} (hq : sequence id s = some q)
    (entries : ∀ j, sequence j t = if j = id then none else sequence j s)
    (owners : t.trg.owner = s.trg.owner)
    (bounds : ∀ n, tget t.trg.bound n
      = if q.kind.source = some n then none else tget s.trg.bound n)
    (hs : bindingsAgree s) : bindingsAgree t := by
  rw [bindingsAgree_iff] at hs ⊢
  obtain ⟨binds, owned⟩ := hs
  have own (n : SourceId) : tget s.trg.bound n = some id ↔ q.kind.source = some n := by
    rw [binds, triggeredOn, hq]
    rfl
  have source (j : SeqId) : triggeredOn j t = if j = id then none else triggeredOn j s := by
    unfold triggeredOn
    rw [entries]
    split <;> rfl
  refine ⟨fun n j => ?_, fun n j p e hp => ?_⟩
  · rw [bounds, source]
    by_cases hn : q.kind.source = some n
    · have bound := (own n).mpr hn
      by_cases hj : j = id
      · simp [hn, hj]
      · simp only [hn, hj, if_true, if_false, reduceCtorEq, false_iff]
        rw [← binds, bound]
        exact fun e => hj (Option.some.inj e).symm
    · by_cases hj : j = id
      · subst hj
        simp [hn, own]
      · simp only [hn, hj, if_false]
        exact binds n j
  · rw [bounds] at e
    rw [entries] at hp
    rw [owners]
    split at e
    · cases e
    · split at hp
      · cases hp
      · exact owned n j p e hp

/-- The end of a session unbinds exactly the sources of the sequences that it frees. -/
theorem TornDown.keeps_bindingsAgree {x : Port} {v : Session} {s t : State} (d : TornDown x v s t)
    (hc : copiesAgree s) (hs : bindingsAgree s) : bindingsAgree t := by
  obtain ⟨_, _, sources, _⟩ := hc
  obtain ⟨binds, owned⟩ := hs
  have kept {n id q} (hq : Machine.sequence id s = some q) : tget t.trg.bound n = some id
      ↔ tget s.trg.bound n = some id ∧ q.owner ≠ x := by
    rw [d.bound, Option.filter_eq_some_iff]
    simp [hq]
  refine ⟨fun n id => ?_, fun n id q e hq => ?_⟩
  · rw [d.sequence]
    constructor
    · intro e
      have before := e
      rw [d.bound, Option.filter_eq_some_iff] at before
      obtain ⟨q, b, hq, hk⟩ := (binds n id).mp before.1
      refine ⟨q, b, ?_, hk⟩
      rw [Option.filter_eq_some_iff]
      exact ⟨hq, by simpa using ((kept hq).mp e).2⟩
    · rintro ⟨q, b, hq, hk⟩
      rw [Option.filter_eq_some_iff] at hq
      exact (kept hq.1).mpr ⟨(binds n id).mpr ⟨q, b, hq.1, hk⟩, by simpa using hq.2⟩
  · rw [d.sequence, Option.filter_eq_some_iff] at hq
    have own := owned n id q ((kept hq.1).mp e).1 hq.1
    have other := ((kept hq.1).mp e).2
    rw [d.owner, ← sources, own, if_neg]
    simpa using other

theorem Move.keeps_bindingsAgree {s t : State} (h : Move s t) (hc : copiesAgree s)
    (hs : bindingsAgree s) : bindingsAgree t := by
  cases h with
  | work w => exact bindingsAgree_of_madeAlike w.madeAlike rfl rfl hs
  | grant r x hn _ _ =>
    refine ⟨fun n id => ?_, fun n id q e hq => ?_⟩
    · rw [reowned_bound]
      exact hs.1 n id
    · rw [reowned_bound] at e
      have own := hs.2 n id q e hq
      rw [tget_reowned_owner, if_neg]
      · exact own
      · rintro rfl
        rw [hc.2.2.1 n] at own
        exact absurd (hn.symm.trans own) nofun
  | release r x _ hu =>
    refine ⟨fun n id => ?_, fun n id q e hq => ?_⟩
    · rw [reowned_bound]
      exact hs.1 n id
    · rw [reowned_bound] at e
      rw [tget_reowned_owner, if_neg]
      · exact hs.2 n id q e hq
      · rintro rfl
        simp [inUseAgainstRelease, e] at hu
  | define x id k steps hid ho hb _ _ =>
    exact bindingsAgree_define hid ho hb (fun _ => tget_tset ..) (bindKind_owner ..)
      (tget_bindKind k id s) hs
  | delete id q hq _ =>
    exact bindingsAgree_delete hq (fun _ => tget_tset ..) (unbindKind_owner ..)
      (tget_unbindKind q.kind s) hs
  | teardown d => exact d.keeps_bindingsAgree hc hs
  | reset f => exact f.bindingsAgree
  | _ => exact bindingsAgree_of_madeAlike (fun _ => rfl) rfl rfl hs

/-- Settles O58: claim table and owner copies change together, and so do a sequence and the binding
of its source. -/
theorem copiesAgreeKept : Obligations.CopiesAgreeKept :=
  ⟨fun _ _ hs => step_keeps (fun _ _ m => m.keeps_copiesAgree) hs, fun _ _ hs e =>
    (step_keeps (P := fun s => copiesAgree s ∧ bindingsAgree s)
      (fun _ _ m hs => ⟨m.keeps_copiesAgree hs.1, m.keeps_bindingsAgree hs.1 hs.2⟩) hs e).2⟩

/-! ### Monitors (R109) -/

theorem monitorsSane_congr {s t : State} (h : t.mon = s.mon) (hs : monitorsSane s) :
    monitorsSane t := by
  unfold monitorsSane monitor at *
  rwa [h]

theorem monitorSane_releasedMonitor : monitorSane releasedMonitor := ⟨Nat.zero_le _, rfl⟩

/-- The owner is no part of a monitor's ranges. -/
theorem monitorSane_owner {m : Monitor} (o : Option Port) (h : monitorSane m) :
    monitorSane { m with owner := o } := h

theorem Move.keeps_monitorsSane {s t : State} (h : Move s t) (hs : monitorsSane s) :
    monitorsSane t := by
  have ⟨sane, released⟩ := hs
  cases h with
  | report k =>
    refine ⟨fun i => (k.monitors i).sane (sane i), fun i e => ?_⟩
    have before := released i ((k.monitors i).owner.symm.trans e)
    rw [(k.monitors i).off (by rw [before]; rfl), before]
  | grant r x =>
    refine ⟨fun i => ?_, fun i => ?_⟩ <;> rw [monitor_reowned] <;> split
    · exact monitorSane_owner _ (sane i)
    · exact sane i
    · exact nofun
    · exact released i
  | release r x =>
    refine ⟨fun i => ?_, fun i => ?_⟩ <;> rw [monitor_reowned] <;> split
    · exact monitorSane_releasedMonitor
    · exact sane i
    · exact fun _ => rfl
    · exact released i
  | monitor x i m ho hm hsane _ =>
    have entry (j : MonId) : Machine.monitor j (setMonitorAt i m s)
        = if j = i then m else Machine.monitor j s :=
      tget_tset ..
    refine ⟨fun j => ?_, fun j => ?_⟩ <;> rw [entry] <;> split
    · exact hsane (sane i)
    · exact sane j
    · rw [hm]
      exact nofun
    · exact released j
  | teardown d =>
    refine ⟨fun i => ?_, fun i => ?_⟩ <;> rw [d.mon] <;> split
    · exact monitorSane_releasedMonitor
    · exact sane i
    · exact fun _ => rfl
    · exact released i
  | reset f => exact f.monitorsSane
  | _ => exact monitorsSane_congr rfl hs

end Sys2Proof.Machine
end

section
/-! ## The converter view, restart counts and cuts -/

namespace Sys2Proof.Machine

open Sys2Proof.Safety

/-! ### Law 1: the converter view -/

/-- The service record names the producer of the measurement (R53). -/
structure Service.Describes (r : Service) (m : Measurement) : Prop where
  port : r.port = m.port
  step : ∀ k, r.item = .step k → m.step = some k
  immediate : ∀ c, r.item = .immediate c → m.step = none ∧ m.channel = c

theorem Service.describes_step {r : Service} {m : Measurement} {k : StepRef}
    (hi : r.item = .step k) : r.Describes m ↔ r.port = m.port ∧ m.step = some k :=
  ⟨fun h => ⟨h.port, h.step k hi⟩,
    fun h => ⟨h.1, fun j e => by rw [hi] at e; cases e; exact h.2, fun c e => by simp [hi] at e⟩⟩

theorem Service.describes_immediate {r : Service} {m : Measurement} {c : Channel}
    (hi : r.item = .immediate c) :
    r.Describes m ↔ r.port = m.port ∧ m.step = none ∧ m.channel = c :=
  ⟨fun h => ⟨h.port, h.immediate c hi⟩,
    fun h => ⟨h.1, fun k e => by simp [hi] at e, fun d e => by rw [hi] at e; cases e; exact h.2⟩⟩

/-- Law 1 in its three cases. -/
theorem viewAgrees_iff (s : State) : viewAgrees s
    ↔ (s.sch.view = .notReady ∧ s.cnv.state = .starting)
      ∨ (s.sch.view = .free ∧ s.cnv.state = .idle)
      ∨ ∃ r m, s.sch.view = .busy r ∧ inFlight s = some m ∧ r.Describes m := by
  have resting {u : ConvState} (e : s.cnv.state = u) (h : u = .starting ∨ u = .idle) :
      inFlight s = none := by
    rcases h with rfl | rfl <;> simp [inFlight, e]
  unfold viewAgrees
  cases hv : s.sch.view with
  | notReady =>
    cases hm : inFlight s with
    | none => simp
    | some m => simpa using fun e => by simp [resting e (.inl rfl)] at hm
  | free =>
    cases hm : inFlight s with
    | none => simp
    | some m => simpa using fun e => by simp [resting e (.inr rfl)] at hm
  | busy r =>
    cases hm : inFlight s with
    | none => simp
    | some m =>
      cases hi : r.item with
      | step k => simp [hi, Service.describes_step hi]
      | immediate c => simp [hi, Service.describes_immediate hi]

theorem viewAgrees_free {s : State} (hv : s.sch.view = .free) (hc : s.cnv.state = .idle) :
    viewAgrees s := (viewAgrees_iff s).mpr (.inr (.inl ⟨hv, hc⟩))

theorem viewAgrees_busy {s : State} {r : Service} {m : Measurement} (hv : s.sch.view = .busy r)
    (hm : inFlight s = some m) (hd : r.Describes m) : viewAgrees s :=
  (viewAgrees_iff s).mpr (.inr (.inr ⟨r, m, hv, hm, hd⟩))

theorem idle_of_viewAgrees {s : State} (h : viewAgrees s) (hv : s.sch.view = .free) :
    s.cnv.state = .idle := by
  rcases (viewAgrees_iff s).mp h with ⟨e, _⟩ | ⟨_, e⟩ | ⟨r, _, e, _⟩
  · simp [hv] at e
  · exact e
  · simp [hv] at e

theorem inFlight_of_idle {s : State} (h : s.cnv.state = .idle) : inFlight s = none := by
  simp [inFlight, h]

theorem inFlight_of_busy {s : State} {r : Service} (h : viewAgrees s) (hv : s.sch.view = .busy r) :
    ∃ m, inFlight s = some m ∧ r.Describes m := by
  rcases (viewAgrees_iff s).mp h with ⟨e, _⟩ | ⟨e, _⟩ | ⟨r', m, e, hm, hd⟩
  · simp [hv] at e
  · simp [hv] at e
  · rw [hv] at e
    cases e
    exact ⟨m, hm, hd⟩

theorem busy_of_inFlight {s : State} {m : Measurement} (h : viewAgrees s)
    (hm : inFlight s = some m) : ∃ r, s.sch.view = .busy r ∧ r.Describes m := by
  rcases (viewAgrees_iff s).mp h with ⟨_, e⟩ | ⟨_, e⟩ | ⟨r, m', hv, hm', hd⟩
  · simp [inFlight, e] at hm
  · simp [inFlight, e] at hm
  · rw [hm] at hm'
    cases hm'
    exact ⟨r, hv, hd⟩

theorem inFlight_congr {s t : State} (hc : t.cnv.state = s.cnv.state) :
    inFlight t = inFlight s := by
  unfold inFlight
  rw [hc]

theorem viewAgrees_congr {s t : State} (hv : t.sch.view = s.sch.view)
    (hc : t.cnv.state = s.cnv.state) (h : viewAgrees s) : viewAgrees t := by
  rw [viewAgrees_iff] at h ⊢
  rwa [hv, hc, inFlight_congr hc]

/-- An abandon order frees view and converter together, or it leaves both as they are (R30, R75). -/
theorem relieved_cases {p : Measurement → Bool} {s t : State}
    (hv : t.sch.view = relievedView p s) (hc : t.cnv = relievedCnv p s) :
    (t.sch.view = .free ∧ t.cnv.state = .idle)
      ∨ (t.sch.view = s.sch.view ∧ t.cnv.state = s.cnv.state
        ∧ ∀ m, inFlight s = some m → p m = false) := by
  rw [hv, hc]
  unfold relievedView relievedCnv
  by_cases h : (inFlight s).any p = true
  · exact .inl ⟨if_pos h, if_pos h⟩
  · exact .inr ⟨if_neg h, if_neg h, fun m hm => by simpa [hm] using h⟩

/-- An abandon order leaves view and converter in agreement. -/
theorem viewAgrees_relieved {p : Measurement → Bool} {s t : State}
    (hv : t.sch.view = relievedView p s) (hc : t.cnv = relievedCnv p s) (h : viewAgrees s) :
    viewAgrees t := by
  rcases relieved_cases hv hc with ⟨free, idle⟩ | ⟨view, state, _⟩
  · exact viewAgrees_free free idle
  · exact viewAgrees_congr view state h

/-- A start order that the IDLE converter takes (R22). -/
theorem inFlight_converterStart {s t : State} {p : Port} {r : Option StepRef} {c : Channel}
    {n : SampleCount} (hi : s.cnv.state = .idle) (ht : t.cnv = (converterStart p r c n s).cnv) :
    ∃ m, inFlight t = some m ∧ m.port = p ∧ m.step = r ∧ m.channel = c ∧ m.cutPending = false := by
  rw [inFlight_congr (congrArg Converter.state ht)]
  unfold converterStart
  rw [hi]
  dsimp only
  unfold inFlight
  by_cases hd : (descriptor c s).settle = 0
  · exact ⟨_, by rw [if_pos hd]; rfl, rfl, rfl, rfl, rfl⟩
  · exact ⟨_, by rw [if_neg hd]; rfl, rfl, rfl, rfl, rfl⟩

theorem Work.keeps_viewAgrees {s : State} {c : Converter} {q : SeqUnit} {k : Scheduler}
    (h : Work s c q k) (hs : viewAgrees s) : viewAgrees (worked c q k s) := by
  cases h with
  | progress c h =>
    rcases h with same | ⟨m, m', hm, hm', cont⟩
    · exact viewAgrees_congr (s := s) rfl same hs
    · obtain ⟨r, hv, hd⟩ := busy_of_inFlight hs hm
      refine viewAgrees_busy hv hm' ⟨hd.port.trans cont.port.symm, fun k e => ?_, fun d e => ?_⟩
      · rw [cont.step, hd.step k e]
      · rw [cont.step, cont.channel]
        exact hd.immediate d e
  | trimLoaded c _ hc => exact viewAgrees_free rfl hc
  | halt id q => exact viewAgrees_relieved rfl rfl hs
  | orderCut r hv =>
    obtain ⟨m, hm, hd⟩ := inFlight_of_busy hs hv
    exact viewAgrees_busy rfl hm ⟨hd.port, hd.step, hd.immediate⟩
  | pendCut m t r hm hv =>
    obtain ⟨m', hm', hd⟩ := inFlight_of_busy hs hv
    simp only [inFlight, hm, Option.some.injEq] at hm'
    subst hm'
    exact viewAgrees_busy hv rfl ⟨hd.port, hd.step, hd.immediate⟩
  | cut => exact viewAgrees_free rfl rfl
  | complete => exact viewAgrees_free rfl rfl
  | startStep cls id q st hv =>
    obtain ⟨m, hm, hp, hr, _⟩ := inFlight_converterStart (idle_of_viewAgrees hs hv)
      (t := worked (converterStart q.owner (some ⟨id, q.index⟩) st.channel st.samples s).cnv s.seq
        { s.sch with view := .busy ⟨cls, q.owner, .step ⟨id, q.index⟩,
            cls == .background && q.restarts == 3, false⟩ } s) rfl
    exact viewAgrees_busy rfl hm ⟨hp.symm, fun k e => by cases e; exact hr, nofun⟩
  | startNow x c n hv =>
    obtain ⟨m, hm, hp, hr, hch, _⟩ := inFlight_converterStart (idle_of_viewAgrees hs hv)
      (t := worked (converterStart x none c n s).cnv s.seq
        { s.sch with view := .busy ⟨.prompt, x, .immediate c, false, false⟩ } s) rfl
    exact viewAgrees_busy rfl hm ⟨hp.symm, nofun, fun d e => by cases e; exact ⟨hr, hch⟩⟩
  | _ => exact viewAgrees_congr rfl rfl hs

theorem Move.keeps_viewAgrees {s t : State} (h : Move s t) (hs : viewAgrees s) : viewAgrees t := by
  cases h with
  | work w => exact w.keeps_viewAgrees hs
  | teardown d => exact viewAgrees_relieved d.view d.cnv hs
  | reset f => exact f.viewAgrees
  | _ => exact viewAgrees_congr rfl rfl hs

/-! ### Law 9: restart counts -/

/-- Law 9 for one sequence. -/
def Sequence.RestartsSane (q : Sequence) : Prop :=
  q.restarts ≤ 3 ∧ (q.kind ≠ .continuous → q.restarts = 0)

theorem Sequence.restartsSane_zero {q : Sequence} (h : q.restarts = 0) : q.RestartsSane :=
  ⟨by omega, fun _ => h⟩

theorem Sequence.restartsSane_congr {q q' : Sequence} (hk : q'.kind = q.kind)
    (hr : q'.restarts = 0 ∨ q'.restarts = q.restarts) (h : q.RestartsSane) : q'.RestartsSane := by
  rcases hr with e | e
  · exact restartsSane_zero e
  · unfold RestartsSane at *
    rwa [hk, e]

theorem Sequence.restarts_afterStep (q : Sequence) (i : Nat) :
    (q.afterStep i).restarts = 0 ∨ (q.afterStep i).restarts = q.restarts := by
  obtain e | ⟨_, _, e⟩ | ⟨_, _, _, _, _, e, _⟩ := q.afterStep_cases i <;> rw [e]
  · exact .inr rfl
  · exact .inl rfl
  · exact .inl rfl

theorem restartsSane_put {s t : State} {id : SeqId} {q : Sequence}
    (h : t.seq = s.seq.put id (some q)) (hq : q.RestartsSane) (hs : restartsSane s) :
    restartsSane t := fun j p e => by
  rw [sequence_put h] at e
  split at e
  · cases e
    exact hq
  · exact hs j p e

theorem restartsSane_rewritten {s t : State} {r : Option StepRef}
    {f : StepRef → Sequence → Sequence} (h : t.seq = rewritten r f s)
    (hf : ∀ k q, r = some k → sequence k.seq s = some q → (f k q).RestartsSane)
    (hs : restartsSane s) : restartsSane t := fun j p e => by
  rw [sequence_rewritten h, Option.map_eq_some_iff] at e
  obtain ⟨q, hq, rfl⟩ := e
  cases r with
  | none => exact hs j q hq
  | some k =>
    by_cases hj : j = k.seq
    · simp only [Option.elim_some, hj, if_true]
      exact hf k q rfl (hj ▸ hq)
    · simp only [Option.elim_some, hj, if_false]
      exact hs j q hq

theorem restartsSane_congr {s t : State} (h : t.seq = s.seq) (hs : restartsSane s) :
    restartsSane t := fun id q e => hs id q (by simpa [sequence, h] using e)

theorem candidate_iff {q : Sequence} : q.candidate = true
    ↔ q.kind = .continuous ∧ (q.state = .running ∨ q.state = .stopping) := by
  simp [Sequence.candidate]

/-- A measurement that is cut is an unprotected background one, and its sequence has had fewer than
three restarts (R64, R66). -/
theorem restarts_of_cut {s : State} {m : Measurement} (hv : viewAgrees s) (hs : cutsAgree s)
    (hm : inFlight s = some m) (hc : m.cutPending = true
      ∨ ∃ r, s.sch.view = .busy r ∧ r.cls = .background ∧ r.shielded = false) :
    ∃ k q, m.step = some k ∧ sequence k.seq s = some q ∧ q.candidate = true ∧ q.restarts < 3 := by
  obtain ⟨r, hr, hd⟩ := busy_of_inFlight hv hm
  have cuttable : r.cls = .background ∧ r.shielded = false := by
    rcases hc with pending | ⟨r', hr', h⟩
    · exact (hs r hr).2 m hm pending
    · rw [hr] at hr'
      cases hr'
      exact h
  obtain ⟨k, q, hi, hq, _, hcand, hlt⟩ := (hs r hr).1 cuttable.1
  exact ⟨k, q, hd.step k hi, hq, hcand, hlt cuttable.2⟩

theorem Work.keeps_restartsSane {s : State} {c : Converter} {q : SeqUnit} {k : Scheduler}
    (h : Work s c q k) (hv : viewAgrees s) (hc : cutsAgree s) (hs : restartsSane s) :
    restartsSane (worked c q k s) := by
  cases h with
  | entry id q q' hq h =>
    exact restartsSane_put rfl (Sequence.restartsSane_congr h.kind h.restarts (hs id q hq)) hs
  | stopPending id q hq => exact restartsSane_put rfl (hs id q hq) hs
  | halt id q hq => exact restartsSane_put rfl (Sequence.restartsSane_zero rfl) hs
  | run id q hq => exact restartsSane_put rfl (hs id q hq) hs
  | arrive e q hq => exact restartsSane_put rfl (hs e.seq q hq) hs
  | popUrgent e rest q _ _ hq => exact restartsSane_put rfl (Sequence.restartsSane_zero rfl) hs
  | popPrompt e =>
    obtain ⟨x, item⟩ := e
    cases item with
    | sequence id =>
      exact restartsSane_rewritten (r := some ⟨id, 0⟩) (f := fun _ => Sequence.startPass) rfl
        (fun _ _ _ _ => Sequence.restartsSane_zero rfl) hs
    | immediate c n => exact restartsSane_congr rfl hs
  | cut m hm hcut =>
    obtain ⟨k, q, hk, hq, hcand, hlt⟩ := restarts_of_cut hv hc hm hcut
    refine restartsSane_rewritten rfl (fun j p hj hp => ?_) hs
    rw [hk] at hj
    cases hj
    rw [hq] at hp
    cases hp
    exact ⟨hlt, fun other => absurd (candidate_iff.mp hcand).1 other⟩
  | complete m o =>
    exact restartsSane_rewritten rfl (fun k q _ hq => Sequence.restartsSane_congr
      (Sequence.make_eq (q.make_afterStep k.index)).2.1 (q.restarts_afterStep k.index)
      (hs k.seq q hq)) hs
  | _ => exact restartsSane_congr rfl hs

theorem Move.keeps_restartsSane {s t : State} (h : Move s t) (hv : viewAgrees s)
    (hc : cutsAgree s) (hs : restartsSane s) : restartsSane t := by
  cases h with
  | work w => exact w.keeps_restartsSane hv hc hs
  | define x id k steps =>
    intro j q e
    change tget (tset s.seq.table id _) j = some q at e
    rw [tget_tset] at e
    split at e
    · cases e
      exact Sequence.restartsSane_zero rfl
    · exact hs j q e
  | delete id q =>
    intro j q e
    change tget (tset s.seq.table id _) j = some q at e
    rw [tget_tset] at e
    split at e
    · cases e
    · exact hs j q e
  | teardown d =>
    intro j q e
    rw [d.sequence, Option.filter_eq_some_iff] at e
    exact hs j q e.1
  | reset f => exact f.restartsSane
  | _ => exact restartsSane_congr rfl hs

/-! ### Background measurements and cuts (R64, R66) -/

/-- What a background measurement in flight stands for. -/
def Service.Sustained (r : Service) (s : State) : Prop :=
  r.cls = .background → ∃ k q, r.item = .step k ∧ sequence k.seq s = some q ∧ q.owner = r.port
    ∧ q.candidate = true ∧ (r.shielded = false → q.restarts < 3)

/-- Every candidate of the rotation that `p` names is one still, with no more restarts. -/
def KeepsCandidates (p : SeqId → Sequence → Prop) (s t : State) : Prop :=
  ∀ id q, sequence id s = some q → q.candidate = true → p id q → ∃ q', sequence id t = some q'
    ∧ q'.owner = q.owner ∧ q'.candidate = true ∧ (q'.restarts = 0 ∨ q'.restarts = q.restarts)

theorem Service.Sustained.mono {r : Service} {s t : State} {p : SeqId → Sequence → Prop}
    (h : r.Sustained s) (keeps : KeepsCandidates p s t)
    (hp : ∀ k q, r.item = .step k → sequence k.seq s = some q → q.owner = r.port → p k.seq q) :
    r.Sustained t := fun hb => by
  obtain ⟨k, q, hi, hq, ho, hc, hr⟩ := h hb
  obtain ⟨q', hq', ho', hc', hr'⟩ := keeps k.seq q hq hc (hp k q hi hq ho)
  refine ⟨k, q', hi, hq', ho'.trans ho, hc', fun hs => ?_⟩
  have := hr hs
  omega

theorem keepsCandidates_congr {p : SeqId → Sequence → Prop} {s t : State} (h : t.seq = s.seq) :
    KeepsCandidates p s t := fun id q hq hc _ =>
  ⟨q, by simpa [sequence, h] using hq, rfl, hc, .inr rfl⟩

/-- An entry that was no candidate may become anything. -/
theorem keepsCandidates_of_other {p : SeqId → Sequence → Prop} {s t : State} {id : SeqId}
    {v : Option Sequence} (h : ∀ j, sequence j t = if j = id then v else sequence j s)
    (hid : ∀ q, sequence id s = some q → p id q → q.candidate = false) : KeepsCandidates p s t :=
  fun j q hq hc hp => by
    refine ⟨q, ?_, rfl, hc, .inr rfl⟩
    rw [h, if_neg]
    · exact hq
    · rintro rfl
      simp [hid q hq hp] at hc

theorem candidate_eq_false {q : Sequence} (h : q.state ≠ .running) (h' : q.state ≠ .stopping) :
    q.candidate = false := by
  rw [← Bool.not_eq_true, candidate_iff]
  rintro ⟨_, e | e⟩
  · exact h e
  · exact h' e

/-- The same work in another state: the law reads view, table and converter state. -/
theorem cutsAgree_of_keeps {s t : State} (hv : t.sch.view = s.sch.view)
    (hc : t.cnv.state = s.cnv.state) (hk : KeepsCandidates (fun _ _ => True) s t)
    (hs : cutsAgree s) : cutsAgree t := fun r hr => by
  rw [hv] at hr
  rw [inFlight_congr hc]
  exact ⟨Service.Sustained.mono (hs r hr).1 hk fun _ _ _ _ _ => trivial, (hs r hr).2⟩

theorem cutsAgree_free {s : State} (hv : s.sch.view = .free) : cutsAgree s := fun r hr => by
  simp [hv] at hr

/-- After an abandon order that did not reach the measurement in flight, the law holds of it if its
sequence is a candidate still. -/
theorem cutsAgree_relieved {p : Measurement → Bool} {n : SeqId → Sequence → Prop} {s t : State}
    (hv : t.sch.view = relievedView p s) (hc : t.cnv = relievedCnv p s) (ha : viewAgrees s)
    (hk : KeepsCandidates n s t)
    (hn : ∀ m k q, inFlight s = some m → p m = false → m.step = some k →
      sequence k.seq s = some q → q.owner = m.port → n k.seq q)
    (hs : cutsAgree s) : cutsAgree t := by
  rcases relieved_cases hv hc with ⟨free, _⟩ | ⟨view, state, missed⟩
  · exact cutsAgree_free free
  · intro r hr
    rw [view] at hr
    obtain ⟨m, hm, hd⟩ := inFlight_of_busy ha hr
    rw [inFlight_congr state]
    refine ⟨Service.Sustained.mono (hs r hr).1 hk fun k q hi hq ho => ?_, (hs r hr).2⟩
    exact hn m k q hm (missed m hm) (hd.step k hi) hq (ho.trans hd.port)

theorem Work.keeps_cutsAgree {s : State} {c : Converter} {q : SeqUnit} {k : Scheduler}
    (h : Work s c q k) (hv : viewAgrees s) (hr : restartsSane s) (hs : cutsAgree s) :
    cutsAgree (worked c q k s) := by
  cases h with
  | progress c h =>
    rcases h with same | ⟨m, m', hm, hm', cont⟩
    · exact cutsAgree_of_keeps (s := s) rfl same (keepsCandidates_congr rfl) hs
    · intro r hr
      refine ⟨(hs r hr).1, fun n hn pending => (hs r hr).2 m hm (cont.cut ?_)⟩
      have e : some m' = some n := hm'.symm.trans hn
      cases e
      exact pending
  | trimLoaded => exact cutsAgree_free rfl
  | entry id q q' hq h =>
    refine cutsAgree_of_keeps (s := s) rfl rfl (fun j p hp hc _ => ?_) hs
    rw [sequence_put (s := s) rfl]
    split
    · next e =>
      subst e
      rw [hq] at hp
      cases hp
      obtain ⟨kind, live⟩ := candidate_iff.mp hc
      exact ⟨q', rfl, h.owner, candidate_iff.mpr ⟨h.kind.trans kind, h.live live⟩, h.restarts⟩
    · exact ⟨p, hp, rfl, hc, .inr rfl⟩
  | stopPending id q hq hp =>
    refine cutsAgree_of_keeps (s := s) rfl rfl (keepsCandidates_of_other (s := s) (sequence_put rfl)
      fun p e _ => ?_) hs
    rw [hq] at e
    cases e
    exact candidate_eq_false (by simp [hp]) (by simp [hp])
  | halt id q hq =>
    refine cutsAgree_relieved (n := fun j _ => j ≠ id) rfl rfl hv
      (keepsCandidates_of_other (s := s) (sequence_put rfl) fun _ _ h => absurd rfl h)
      (fun m k q _ hp hk _ _ => ?_) hs
    simpa [Measurement.ofSequence, hk] using hp
  | run id q hq ha =>
    refine cutsAgree_of_keeps (s := s) rfl rfl (keepsCandidates_of_other (s := s) (sequence_put rfl)
      fun p e _ => ?_) hs
    rw [hq] at e
    cases e
    exact candidate_eq_false (by simp [ha]) (by simp [ha])
  | arrive e q hq ha =>
    refine cutsAgree_of_keeps (s := s) rfl rfl (keepsCandidates_of_other (s := s) (sequence_put rfl)
      fun p e _ => ?_) hs
    rw [hq] at e
    cases e
    exact candidate_eq_false (by simp [ha]) (by simp [ha])
  | popUrgent _ _ _ free => exact cutsAgree_free free
  | popPrompt _ _ free => exact cutsAgree_free free
  | orderCut r hv =>
    intro r' hr'
    cases hr'
    exact hs r hv
  | pendCut m t r hm hv hb hsh =>
    intro r' hr'
    have e : View.busy r = .busy r' := hv.symm.trans hr'
    cases e
    exact ⟨(hs r hv).1, fun _ _ _ => ⟨hb, hsh⟩⟩
  | cut => exact cutsAgree_free rfl
  | complete => exact cutsAgree_free rfl
  | startStep cls id q st free hq hb =>
    obtain ⟨m, hm, _, _, _, hcut⟩ := inFlight_converterStart (idle_of_viewAgrees hv free)
      (t := worked (converterStart q.owner (some ⟨id, q.index⟩) st.channel st.samples s).cnv s.seq
        { s.sch with view := .busy ⟨cls, q.owner, .step ⟨id, q.index⟩,
            cls == .background && q.restarts == 3, false⟩ } s) rfl
    intro r hr'
    cases hr'
    refine ⟨fun hcls => ⟨_, q, rfl, hq, rfl, ?_, fun hsh => ?_⟩, fun n hn pending => ?_⟩
    · subst hcls
      exact hb
    · have three := (hr id q hq).1
      have other : q.restarts ≠ 3 := by
        rintro e
        simp [e] at hsh
        exact hsh hcls
      omega
    · rw [hm] at hn
      cases hn
      rw [hcut] at pending
      cases pending
  | startNow x c n free =>
    obtain ⟨m, hm, _, _, _, hcut⟩ := inFlight_converterStart (idle_of_viewAgrees hv free)
      (t := worked (converterStart x none c n s).cnv s.seq
        { s.sch with view := .busy ⟨.prompt, x, .immediate c, false, false⟩ } s) rfl
    intro r hr'
    cases hr'
    refine ⟨nofun, fun n hn pending => ?_⟩
    rw [hm] at hn
    cases hn
    rw [hcut] at pending
    cases pending
  | _ => exact cutsAgree_of_keeps (s := s) rfl rfl (keepsCandidates_congr rfl) hs

theorem Move.keeps_cutsAgree {s t : State} (h : Move s t) (hv : viewAgrees s)
    (hr : restartsSane s) (hs : cutsAgree s) : cutsAgree t := by
  cases h with
  | work w => exact w.keeps_cutsAgree hv hr hs
  | define x id k steps hid =>
    refine cutsAgree_of_keeps (s := s) rfl rfl (keepsCandidates_of_other (fun _ => tget_tset ..)
      fun p e _ => ?_) hs
    simp [hid] at e
  | delete id q hq hd =>
    refine cutsAgree_of_keeps (s := s) rfl rfl (keepsCandidates_of_other (fun _ => tget_tset ..)
      fun p e _ => ?_) hs
    rw [hq] at e
    cases e
    exact candidate_eq_false (by simp [hd]) (by simp [hd])
  | @teardown x v _ d =>
    refine cutsAgree_relieved (n := fun _ q => q.owner ≠ x) d.view d.cnv hv
      (fun j q hq hc ho => ⟨q, ?_, rfl, hc, .inr rfl⟩) (fun m k q _ hp _ _ ho => ?_) hs
    · rw [d.sequence, Option.filter_eq_some_iff]
      exact ⟨hq, by simpa using ho⟩
    · simpa [ho] using hp
  | reset f => exact f.cutsAgree
  | _ => exact cutsAgree_of_keeps (s := s) rfl rfl (keepsCandidates_congr rfl) hs

/-- Settles O52: view and converter change together; a restart counts only for an unprotected
background measurement, whose sequence is below three. -/
theorem viewAgreesKept : Obligations.ViewAgreesKept :=
  ⟨fun _ _ hs => step_keeps (fun _ _ m => m.keeps_viewAgrees) hs, fun _ _ hs e =>
    (step_keeps (P := fun s => viewAgrees s ∧ restartsSane s ∧ cutsAgree s)
      (fun _ _ m ⟨hv, hr, hc⟩ =>
        ⟨m.keeps_viewAgrees hv, m.keeps_restartsSane hv hc hr, m.keeps_cutsAgree hv hr hc⟩)
      hs e).2⟩

end Sys2Proof.Machine
end

section
/-! ## Requests of sequences -/

namespace Sys2Proof.Machine

open Sys2Proof.Safety

/-! ### One request of each PENDING sequence (Laws 3 and 4) -/

/-- The entry `id` holds a PENDING sequence. -/
def pendingAt (id : SeqId) (s : State) : Bool := (sequence id s).any fun q => q.state == .pending

/-- As many requests as Laws 3 and 4 allow each sequence. -/
def requestsCounted (s : State) : Prop :=
  ∀ id, requestsOf id s = if pendingAt id s = true then 1 else 0

/-- A prompt entry of a sequence is its owner's. -/
def requestsOwned (s : State) : Prop :=
  ∀ e id, e ∈ s.sch.prompt → e.item = .sequence id →
    (sequence id s).any (fun q => q.owner == e.port) = true

theorem pendingAt_some {id : SeqId} {s : State} {q : Sequence} (hq : sequence id s = some q) :
    pendingAt id s = true ↔ q.state = .pending := by
  simp [pendingAt, hq]

theorem requestsOf_congr {s t : State} (id : SeqId) (hu : t.sch.urgent = s.sch.urgent)
    (hp : t.sch.prompt = s.sch.prompt) : requestsOf id t = requestsOf id s := by
  unfold requestsOf
  rw [hu, hp]

theorem requestsCounted_congr {s t : State} (hu : t.sch.urgent = s.sch.urgent)
    (hp : t.sch.prompt = s.sch.prompt) (h : ∀ id, pendingAt id t = pendingAt id s)
    (hs : requestsCounted s) : requestsCounted t := fun id => by
  rw [requestsOf_congr id hu hp, h, hs]

theorem pendingAt_congr {s t : State} (h : t.seq = s.seq) (id : SeqId) :
    pendingAt id t = pendingAt id s := by
  simp [pendingAt, sequence, h]

/-- One entry changes together with its requests. -/
theorem requestsCounted_put {s t : State} {id : SeqId} {v : Option Sequence}
    (h : ∀ j, sequence j t = if j = id then v else sequence j s)
    (own : requestsOf id t = if v.any (fun q => q.state == .pending) = true then 1 else 0)
    (others : ∀ j, j ≠ id → requestsOf j t = requestsOf j s) (hs : requestsCounted s) :
    requestsCounted t := fun j => by
  unfold pendingAt
  rw [h]
  split
  · next e => rw [e, own]
  · next e => exact (others j e).trans (hs j)

theorem pending_of_request {s : State} {id : SeqId} (hs : requestsCounted s)
    (h : requestsOf id s ≠ 0) : pendingAt id s = true ∧ requestsOf id s = 1 := by
  have count := hs id
  split at count
  · next p => exact ⟨p, count⟩
  · exact absurd count h

/-- No requests of a sequence in any other state. -/
theorem requestsOf_eq_zero {s : State} {id : SeqId} {q : Sequence} (hs : requestsCounted s)
    (hq : sequence id s = some q) (hn : q.state ≠ .pending) : requestsOf id s = 0 := by
  rw [hs id, if_neg]
  rwa [pendingAt_some hq]

/-- A sequence that was not PENDING makes a request. -/
theorem requestsCounted_request {s t : State} {id : SeqId} {q q' : Sequence}
    (hq : sequence id s = some q) (hn : q.state ≠ .pending) (hp : q'.state = .pending)
    (h : ∀ j, sequence j t = if j = id then some q' else sequence j s)
    (count : ∀ j, requestsOf j t = requestsOf j s + if id = j then 1 else 0)
    (hs : requestsCounted s) : requestsCounted t := by
  refine requestsCounted_put h ?_ (fun j hj => ?_) hs
  · simp [count, requestsOf_eq_zero hs hq hn, hp]
  · rw [count, if_neg (Ne.symm hj), Nat.add_zero]

/-- The request of a sequence leaves its queue: it was the only one, and the sequence was
PENDING. -/
theorem requestsCounted_served {s t : State} {id : SeqId} {v : Option Sequence}
    (hv : v.any (fun q => q.state == .pending) = false)
    (h : ∀ j, sequence j t = if j = id then v else sequence j s)
    (count : ∀ j, requestsOf j s = requestsOf j t + if id = j then 1 else 0)
    (hs : requestsCounted s) : requestsCounted t := by
  refine requestsCounted_put h ?_ (fun j hj => ?_) hs
  · have one := count id
    rw [if_pos rfl] at one
    have := (pending_of_request hs (id := id) (by omega)).2
    rw [hv, if_neg Bool.false_ne_true]
    omega
  · rw [count, if_neg (Ne.symm hj), Nat.add_zero]

/-! #### The two queues -/

theorem requestsOf_urgent_append {s t : State} {e : UrgentEntry} (j : SeqId)
    (hu : t.sch.urgent = s.sch.urgent ++ [e]) (hp : t.sch.prompt = s.sch.prompt) :
    requestsOf j t = requestsOf j s + if e.seq = j then 1 else 0 := by
  unfold requestsOf
  rw [hu, hp, List.countP_append, List.countP_singleton]
  simp only [beq_iff_eq]
  omega

theorem requestsOf_prompt_append {s t : State} {x : Port} {item : PromptItem} {n : Nat} (j : SeqId)
    (hn : (if item = .sequence j then 1 else 0) = n) (hu : t.sch.urgent = s.sch.urgent)
    (hp : t.sch.prompt = s.sch.prompt ++ [⟨x, item⟩]) :
    requestsOf j t = requestsOf j s + n := by
  unfold requestsOf
  rw [hu, hp, ← hn, List.countP_append, List.countP_singleton]
  simp only [beq_iff_eq]
  omega

theorem requestsOf_urgent_pop {s t : State} {e : UrgentEntry} (j : SeqId)
    (hu : s.sch.urgent = e :: t.sch.urgent) (hp : t.sch.prompt = s.sch.prompt) :
    requestsOf j s = requestsOf j t + if e.seq = j then 1 else 0 := by
  unfold requestsOf
  rw [hu, hp, List.countP_cons]
  simp only [beq_iff_eq]
  omega

theorem requestsOf_prompt_pop {s t : State} {x : Port} {item : PromptItem} {n : Nat} (j : SeqId)
    (hn : (if item = .sequence j then 1 else 0) = n) (hu : t.sch.urgent = s.sch.urgent)
    (hp : s.sch.prompt = ⟨x, item⟩ :: t.sch.prompt) :
    requestsOf j s = requestsOf j t + n := by
  unfold requestsOf
  rw [hu, hp, ← hn, List.countP_cons]
  simp only [beq_iff_eq]
  omega

/-- A withdrawal removes the requests of the one sequence and no other (R73). -/
theorem requestsOf_removeRequests (id j : SeqId) (s : State) :
    requestsOf j (removeRequests id s) = if j = id then 0 else requestsOf j s := by
  simp only [requestsOf, removeRequests, State.setSch_sch, List.countP_filter,
    PromptEntry.isSequence]
  by_cases hj : j = id
  · subst hj
    rw [if_pos rfl]
    simp
  · rw [if_neg hj]
    congr 1 <;> refine List.countP_congr fun e _ => ?_
    · simpa using fun h : e.seq = j => h.trans_ne hj
    · simp only [Bool.and_eq_true, beq_iff_eq, Bool.not_eq_true', beq_eq_false_iff_ne,
        and_iff_left_iff_imp]
      intro h h'
      rw [h'] at h
      cases h
      exact hj rfl

theorem requestsOf_withdraw (id j : SeqId) (st : SeqState) (s : State) :
    requestsOf j (withdraw id st s)
      = if st = .pending ∧ j = id then 0 else requestsOf j s := by
  cases st with
  | pending =>
    rw [show withdraw id .pending s = removeRequests id s from rfl, requestsOf_removeRequests]
    simp
  | _ => exact requestsOf_congr (s := s) j rfl rfl

/-! #### What work does to entries and requests -/

theorem pendingAt_rewritten {s t : State} {r : Option StepRef}
    {f : StepRef → Sequence → Sequence} (h : t.seq = rewritten r f s)
    (hf : ∀ k q, (f k q).state = .pending ↔ q.state = .pending) (id : SeqId) :
    pendingAt id t = pendingAt id s := by
  have same (q : Sequence) :
      (r.elim q fun k => if id = k.seq then f k q else q).state = .pending
        ↔ q.state = .pending := by
    cases r with
    | none => exact .rfl
    | some k => by_cases hk : id = k.seq <;> simp [hk, hf]
  unfold pendingAt
  rw [sequence_rewritten h, Option.any_map]
  congr 1
  funext q
  exact Bool.eq_iff_iff.mpr (by simpa using same q)

theorem Sequence.pending_afterStep (q : Sequence) (i : Nat) :
    (q.afterStep i).state = .pending ↔ q.state = .pending := by
  obtain e | ⟨_, _, e⟩ | ⟨live, _, _, _, _, e, after⟩ := q.afterStep_cases i <;> rw [e]
  rcases live with live | live <;> rcases after with ⟨after, _⟩ | ⟨after, _⟩ | after <;>
    simp [live, after]

theorem passUpkeep_urgent (cls : Option WorkClass) (b : Bool) (s : State) :
    (passUpkeep cls b s).sch.urgent = s.sch.urgent := by
  unfold passUpkeep
  repeat' split
  all_goals rfl

theorem Work.keeps_requestsCounted {s : State} {c : Converter} {q : SeqUnit} {k : Scheduler}
    (h : Work s c q k) (hs : requestsCounted s) : requestsCounted (worked c q k s) := by
  cases h with
  | entry id q q' hq h =>
    refine requestsCounted_put (sequence_put rfl) ?_ (fun _ _ => rfl) hs
    refine (hs id).trans ?_
    simp only [pendingAt_some hq, ← h.pending, Option.any_some, beq_iff_eq]
  | stopPending id q hq hp =>
    refine requestsCounted_put (s := s) (sequence_put rfl) ?_ (fun j hj => ?_) hs
    · exact (requestsOf_removeRequests id id s).trans (if_pos rfl)
    · exact (requestsOf_removeRequests id j s).trans (if_neg hj)
  | halt id q hq =>
    refine requestsCounted_put (s := s) (sequence_put rfl) ?_ (fun j hj => ?_) hs
    · refine (requestsOf_withdraw id id q.state s).trans ?_
      split
      · rfl
      · next hn => exact requestsOf_eq_zero hs hq fun e => hn ⟨e, rfl⟩
    · exact (requestsOf_withdraw id j q.state s).trans (if_neg fun e => hj e.2)
  | run id q hq ha =>
    exact requestsCounted_request (s := s) hq (by simp [ha]) rfl (sequence_put rfl)
      (fun j => requestsOf_prompt_append j (item := .sequence id) (by simp) rfl rfl) hs
  | requestNow x c n =>
    intro j
    refine .trans ?_ (hs j)
    exact requestsOf_prompt_append j (n := 0) (item := .immediate c n) (by simp) rfl rfl
  | arrive e q hq ha =>
    exact requestsCounted_request (s := s) hq (by simp [ha]) rfl (sequence_put rfl)
      (fun j => requestsOf_urgent_append (s := s) j rfl rfl) hs
  | drop e rest hu hn =>
    have head : requestsOf e.seq s ≠ 0 := by simp [requestsOf, hu]
    simpa [pendingAt, hn] using (pending_of_request hs head).1
  | popUrgent e rest q hv hu hq =>
    exact requestsCounted_served (s := s) (v := some q.startPass) rfl (sequence_put rfl)
      (fun j => requestsOf_urgent_pop j hu rfl) hs
  | popPrompt e rest hv hp =>
    obtain ⟨x, item⟩ := e
    cases item with
    | sequence id =>
      exact requestsCounted_served (s := s) (v := (sequence id s).map Sequence.startPass)
        (by cases sequence id s <;> rfl)
        (sequence_updateSequence id · Sequence.startPass s)
        (fun j => requestsOf_prompt_pop j (by simp) rfl hp) hs
    | immediate c n =>
      intro j
      refine .trans (.symm ?_) (hs j)
      exact requestsOf_prompt_pop j (n := 0) (by simp) rfl hp
  | cut m =>
    exact requestsCounted_congr (s := s) rfl rfl (pendingAt_rewritten rfl fun _ _ => .rfl) hs
  | complete m o =>
    exact requestsCounted_congr (s := s) (passUpkeep_urgent (serviceClass s) _ s)
      (passUpkeep_prompt (serviceClass s) _ s)
      (pendingAt_rewritten rfl fun k q => q.pending_afterStep k.index) hs
  | _ => exact requestsCounted_congr (s := s) rfl rfl (fun _ => rfl) hs

theorem MadeAlike.any_owner {s t : State} (m : MadeAlike s t) (id : SeqId) (x : Port) :
    (sequence id t).any (fun q => q.owner == x) = (sequence id s).any fun q => q.owner == x := by
  have e := congrArg (Option.any fun k => k.1 == x) (m id)
  rwa [Option.any_map, Option.any_map] at e

theorem requestsOwned_of_madeAlike {s t : State} (m : MadeAlike s t)
    (hp : t.sch.prompt.Sublist s.sch.prompt) (hs : requestsOwned s) : requestsOwned t :=
  fun e id he hi => (m.any_owner id e.port).trans (hs e id (hp.mem he) hi)

theorem Work.keeps_requestsOwned {s : State} {c : Converter} {q : SeqUnit} {k : Scheduler}
    (h : Work s c q k) (hs : requestsOwned s) : requestsOwned (worked c q k s) := by
  have m := h.madeAlike
  cases h with
  | stopPending => exact requestsOwned_of_madeAlike m List.filter_sublist hs
  | halt id q => exact requestsOwned_of_madeAlike m (withdraw_prompt ..) hs
  | run id q hq =>
    intro e j he hi
    rw [m.any_owner]
    rcases List.mem_append.mp he with old | new
    · exact hs e j old hi
    · cases List.mem_singleton.mp new
      cases hi
      simp [hq]
  | requestNow x c n =>
    intro e j he hi
    rcases List.mem_append.mp he with old | new
    · exact hs e j old hi
    · cases List.mem_singleton.mp new
      cases hi
  | popPrompt e rest hv hp =>
    exact requestsOwned_of_madeAlike m (hp ▸ List.sublist_cons_self ..) hs
  | complete =>
    exact requestsOwned_of_madeAlike m (passUpkeep_prompt (serviceClass s) _ s ▸ .refl _) hs
  | _ => exact requestsOwned_of_madeAlike m (.refl _) hs

/-! #### Definition, deletion and the end of a session -/

theorem requestsAgree_congr {s t : State} (hq : t.seq = s.seq) (hu : t.sch.urgent = s.sch.urgent)
    (hp : t.sch.prompt = s.sch.prompt) (hs : requestsAgree s) : requestsAgree t :=
  ⟨requestsCounted_congr hu hp (pendingAt_congr hq) hs.1,
    requestsOwned_of_madeAlike (fun id => by simp [sequence, hq]) (hp ▸ .refl _) hs.2⟩

/-- An entry without requests is replaced by one that is not PENDING. -/
theorem requestsAgree_replace {s t : State} {id : SeqId} {v : Option Sequence}
    (hn : pendingAt id s = false) (hv : v.any (fun q => q.state == .pending) = false)
    (h : ∀ j, sequence j t = if j = id then v else sequence j s) (hk : t.sch = s.sch)
    (hs : requestsAgree s) : requestsAgree t := by
  obtain ⟨counted, owned⟩ := hs
  have same (j : SeqId) := requestsOf_congr (s := s) (t := t) j (by rw [hk]) (by rw [hk])
  have none : requestsOf id s = 0 := (counted id).trans (if_neg (ne_true_of_eq_false hn))
  refine ⟨requestsCounted_put h ?_ (fun j _ => same j) counted, fun e j he hi => ?_⟩
  · simp [same, none, hv]
  · rw [hk] at he
    rw [h, if_neg]
    · exact owned e j he hi
    · rintro rfl
      have waits : requestsOf j s ≠ 0 := by
        simp only [requestsOf, ne_eq, Nat.add_eq_zero_iff, List.countP_eq_zero, not_and]
        exact fun _ none => none e he (by simp [hi])
      exact waits none

/-- A filter that decides alike on all that `p` counts. -/
theorem countP_filter_of_const {α : Type} {p f : α → Bool} {b : Bool} {l : List α}
    (h : ∀ e ∈ l, p e = true → f e = b) :
    (l.filter f).countP p = if b = true then l.countP p else 0 := by
  rw [List.countP_filter]
  cases b with
  | false => exact List.countP_eq_zero.mpr fun e he => by simpa using h e he
  | true => exact List.countP_congr fun e he => by simpa using h e he

theorem prompt_owner {s : State} {e : PromptEntry} {id : SeqId} (hs : requestsOwned s)
    (he : e ∈ s.sch.prompt) (hi : e.item = .sequence id) :
    ∃ q, sequence id s = some q ∧ q.owner = e.port := by
  have owner := hs e id he hi
  cases hq : sequence id s with
  | none => simp [hq] at owner
  | some q => exact ⟨q, rfl, by simpa [hq] using owner⟩

/-- The end of a session withdraws the requests of the sequences that it frees (R138). -/
theorem TornDown.keeps_requestsAgree {x : Port} {v : Session} {s t : State} (d : TornDown x v s t)
    (hs : requestsAgree s) : requestsAgree t := by
  obtain ⟨counted, owned⟩ := hs
  refine ⟨fun id => ?_, fun e id he hi => ?_⟩
  · have before := counted id
    have urgent := countP_filter_of_const (l := s.sch.urgent) (p := fun e => e.seq == id)
      (f := fun e => !(Machine.sequence e.seq s).any fun q => q.owner == x)
      (b := !(Machine.sequence id s).any fun q => q.owner == x)
      fun e _ h => by rw [beq_iff_eq.mp h]
    have prompt := countP_filter_of_const (l := s.sch.prompt) (p := fun e => e.item == .sequence id)
      (f := fun e => e.port != x) (b := !(Machine.sequence id s).any fun q => q.owner == x)
      fun e he h => by
        obtain ⟨q, hq, ho⟩ := prompt_owner owned he (beq_iff_eq.mp h)
        simp [hq, ho, bne]
    rw [Safety.requestsOf, d.urgent, d.prompt, d.sequence, urgent, prompt]
    cases hq : Machine.sequence id s with
    | none => simpa [hq, Safety.requestsOf] using before
    | some q =>
      by_cases mine : q.owner = x
      · simp [mine]
      · simpa [hq, mine, Safety.requestsOf] using before
  · rw [d.prompt, List.mem_filter] at he
    obtain ⟨q, hq, ho⟩ := prompt_owner owned he.1 hi
    have other : q.owner ≠ x := by simpa [ho] using he.2
    rw [d.sequence, hq, Option.filter_some_pos (by simpa using other)]
    simp [ho]

theorem Move.keeps_requestsAgree {s t : State} (h : Move s t) (hs : requestsAgree s) :
    requestsAgree t := by
  cases h with
  | work w => exact ⟨w.keeps_requestsCounted hs.1, w.keeps_requestsOwned hs.2⟩
  | define x id k steps hid =>
    exact requestsAgree_replace (s := s) (by simp [pendingAt, hid]) (v := some _) rfl
      (fun _ => tget_tset ..) rfl hs
  | delete id q hq hd =>
    exact requestsAgree_replace (s := s) (by simp [pendingAt, hq, hd]) (v := none) rfl
      (fun _ => tget_tset ..) rfl hs
  | teardown d => exact d.keeps_requestsAgree hs
  | reset f => exact f.requestsAgree
  | _ => exact requestsAgree_congr (s := s) rfl rfl rfl hs

end Sys2Proof.Machine
end

section
/-! ## Passes and the measurement in flight -/

namespace Sys2Proof.Machine

open Sys2Proof.Safety

/-! ### What serves a sequence -/

/-- No CONTINUOUS sequence is ARMED or PENDING (R55). -/
def Sequence.Unarmed (q : Sequence) : Prop :=
  q.kind = .continuous → q.state ≠ .armed ∧ q.state ≠ .pending

/-- The active urgent pass is of sequence `id` and of port `x`. -/
def HasUrgentPass (x : Port) (id : SeqId) (s : State) : Prop :=
  ∃ p, s.sch.activeUrgent = some p ∧ p.owner = x ∧ p.seq = id

/-- The active prompt pass is of sequence `id` and of port `x`. -/
def HasPromptPass (x : Port) (id : SeqId) (s : State) : Prop :=
  s.sch.activePrompt = some ⟨x, .sequence id⟩

/-- The measurement in flight is a step of sequence `id` for port `x`. -/
def Produces (x : Port) (id : SeqId) (s : State) : Prop :=
  ∃ m k, inFlight s = some m ∧ m.step = some k ∧ m.port = x ∧ k.seq = id

/-- A pass or the measurement in flight is of sequence `id` and of port `x`. -/
def Serves (x : Port) (id : SeqId) (s : State) : Prop :=
  HasUrgentPass x id s ∨ HasPromptPass x id s ∨ Produces x id s

/-- A step ordered in the URGENT or PROMPT class is one of the active pass of that class. -/
def Ordered (s : State) : Prop :=
  ∀ r k, s.sch.view = .busy r → r.item = .step k →
    (r.cls = .urgent → ∃ x, HasUrgentPass x k.seq s)
      ∧ (r.cls = .prompt → ∃ x, HasPromptPass x k.seq s)

def Unarmed (s : State) : Prop := ∀ id q, sequence id s = some q → q.Unarmed

/-- A judgement is no part of whose the pass is. -/
theorem hasUrgentPass_congr {x : Port} {id : SeqId} {s t : State}
    (h : t.sch.activeUrgent.map (fun p => (p.seq, p.owner))
      = s.sch.activeUrgent.map fun p => (p.seq, p.owner)) :
    HasUrgentPass x id t ↔ HasUrgentPass x id s := by
  have iff (u : State) : HasUrgentPass x id u
      ↔ u.sch.activeUrgent.map (fun p => (p.seq, p.owner)) = some (id, x) := by
    simp [HasUrgentPass, and_comm]
  rw [iff, iff, h]

/-- What `passesAgree` says, by passes and producer. -/
structure PassLaws (s : State) : Prop where
  live (x : Port) (id : SeqId) : Serves x id s → liveSequence x id s
  made (x : Port) (id : SeqId) : HasUrgentPass x id s ∨ HasPromptPass x id s → madeByRequest id s
  apart (x y : Port) (id : SeqId) : HasUrgentPass x id s → ¬ HasPromptPass y id s
  ordered : Ordered s
  unarmed : Unarmed s

theorem ordered_iff (s : State) : Ordered s ↔ ∀ r k, s.sch.view = .busy r → r.item = .step k →
    match r.cls with
    | .urgent => ∃ p, s.sch.activeUrgent = some p ∧ p.seq = k.seq
    | .prompt => ∃ x, s.sch.activePrompt = some ⟨x, .sequence k.seq⟩
    | .background => True := by
  unfold Ordered HasUrgentPass HasPromptPass
  refine forall₄_congr fun r k _ _ => ?_
  cases r.cls <;> simp

theorem passesAgree_iff (s : State) : passesAgree s ↔ PassLaws s := by
  constructor
  · rintro ⟨urgent, prompt, producer, ordered, unarmed⟩
    refine ⟨fun x id h => ?_, fun x id h => ?_, fun x y id => ?_, (ordered_iff s).mpr ordered,
      unarmed⟩
    · rcases h with ⟨p, hp, rfl, rfl⟩ | hp | ⟨m, k, hm, hk, rfl, rfl⟩
      · exact (urgent p hp).1
      · exact (prompt x id hp).1
      · exact producer m k hm hk
    · rcases h with ⟨p, hp, rfl, rfl⟩ | hp
      · exact (urgent p hp).2
      · exact (prompt x id hp).2.1
    · rintro ⟨p, hp, _, e⟩ hx
      exact (prompt y id hx).2.2 p hp e
  · intro h
    refine ⟨fun p hp => ?_, fun x id hx => ?_, fun m k hm hk => ?_, (ordered_iff s).mp h.ordered,
      h.unarmed⟩
    · have pass : HasUrgentPass p.owner p.seq s := ⟨p, hp, rfl, rfl⟩
      exact ⟨h.live _ _ (.inl pass), h.made _ _ (.inl pass)⟩
    · refine ⟨h.live _ _ (.inr (.inl hx)), h.made _ _ (.inr hx), fun p hp e => ?_⟩
      exact h.apart p.owner x id ⟨p, hp, rfl, e⟩ hx
    · exact h.live _ _ (.inr (.inr ⟨m, k, hm, hk, rfl, rfl⟩))

/-! ### Live sequences -/

theorem liveSequence_some {x : Port} {id : SeqId} {s : State} {q : Sequence}
    (hq : sequence id s = some q) : liveSequence x id s ↔ q.owner = x ∧ q.Live := by
  simp [liveSequence, hq, Sequence.Live]

theorem not_liveSequence_none {x : Port} {id : SeqId} {s : State} (h : sequence id s = none) :
    ¬ liveSequence x id s := by
  simp [liveSequence, h]

theorem liveSequence_of_entry {x : Port} {id : SeqId} {s t : State}
    (e : sequence id t = sequence id s) (h : liveSequence x id s) : liveSequence x id t := by
  unfold liveSequence at *
  rwa [e]

/-- An entry that was not live may become anything. -/
theorem liveSequence_put {s t : State} {id : SeqId} {v : Option Sequence}
    (h : ∀ j, sequence j t = if j = id then v else sequence j s)
    (dead : ∀ x, ¬ liveSequence x id s) (x : Port) (j : SeqId) (hl : liveSequence x j s) :
    liveSequence x j t := by
  refine liveSequence_of_entry ?_ hl
  rw [h, if_neg]
  rintro rfl
  exact dead x hl

theorem madeByRequest_put {s t : State} {id : SeqId} {v : Option Sequence}
    (h : ∀ j, sequence j t = if j = id then v else sequence j s)
    (dead : ∀ x, ¬ liveSequence x id s) (x : Port) (j : SeqId) (hl : liveSequence x j s)
    (hm : madeByRequest j s) : madeByRequest j t := fun q hq => by
  rw [h, if_neg] at hq
  · exact hm q hq
  · rintro rfl
    exact dead x hl

theorem not_liveSequence {id : SeqId} {s : State} {q : Sequence} (hq : sequence id s = some q)
    (h : q.state = .defined ∨ q.state = .armed ∨ q.state = .pending) (x : Port) :
    ¬ liveSequence x id s := by
  rw [liveSequence_some hq]
  rintro ⟨_, e | e⟩ <;> simp [e] at h

theorem MadeAlike.madeByRequest {s t : State} (m : MadeAlike s t) {id : SeqId}
    (h : madeByRequest id s) : madeByRequest id t := fun q hq => by
  obtain ⟨q0, hq0, e⟩ := m.origin hq
  rw [← (Sequence.make_eq e).2.1]
  exact h q0 hq0

theorem unarmed_put {s t : State} {id : SeqId} {v : Option Sequence}
    (h : ∀ j, sequence j t = if j = id then v else sequence j s)
    (hv : ∀ q, v = some q → q.Unarmed)
    (hs : Unarmed s) : Unarmed t := fun j q e => by
  rw [h] at e
  split at e
  · exact hv q e
  · exact hs j q e

theorem unarmed_rewritten {s t : State} {r : Option StepRef} {f : StepRef → Sequence → Sequence}
    (h : t.seq = rewritten r f s)
    (hf : ∀ k q, q.Unarmed → (f k q).Unarmed) (hs : Unarmed s) : Unarmed t := fun j p e => by
  rw [sequence_rewritten h, Option.map_eq_some_iff] at e
  obtain ⟨q, hq, rfl⟩ := e
  cases r with
  | none => exact hs j q hq
  | some k =>
    by_cases hj : j = k.seq
    · simp only [Option.elim_some, hj, if_true]
      exact hf k q (hs j q hq)
    · simp only [Option.elim_some, hj, if_false]
      exact hs j q hq

theorem unarmed_congr {s t : State} (h : t.seq = s.seq) (hs : Unarmed s) : Unarmed t :=
  fun id q e => hs id q (by simpa [sequence, h] using e)

/-! ### Changes that start no pass and no measurement -/

theorem ordered_free {s : State} (h : s.sch.view = .free) : Ordered s := fun r _ e => by
  simp [h] at e

/-- Passes and measurement in flight are those there were, if they still are. -/
structure NoneStarted (s t : State) : Prop where
  urgent (x : Port) (id : SeqId) : HasUrgentPass x id t → HasUrgentPass x id s
  prompt (x : Port) (id : SeqId) : HasPromptPass x id t → HasPromptPass x id s
  producer (x : Port) (id : SeqId) : Produces x id t → Produces x id s

theorem NoneStarted.serves {s t : State} (o : NoneStarted s t) {x : Port} {id : SeqId}
    (h : Serves x id t) : Serves x id s :=
  h.imp (o.urgent x id) (.imp (o.prompt x id) (o.producer x id))

theorem not_produces_of_idle {s : State} (h : s.cnv.state = .idle) (x : Port) (id : SeqId) :
    ¬ Produces x id s := by
  simp [Produces, inFlight_of_idle h]

theorem produces_congr {s t : State} (h : t.cnv.state = s.cnv.state) {x : Port} {id : SeqId}
    (ht : Produces x id t) : Produces x id s := by
  unfold Produces at *
  rwa [inFlight_congr h] at ht

/-- The laws on passes after a change that starts none: what still is served is live still. -/
theorem PassLaws.of_noneStarted {s t : State} (h : PassLaws s) (o : NoneStarted s t)
    (live : ∀ x id, Serves x id t → liveSequence x id s → liveSequence x id t)
    (made : ∀ x id, liveSequence x id s → madeByRequest id s → madeByRequest id t)
    (ordered : Ordered t) (unarmed : Unarmed t) : PassLaws t where
  live x id hx := live x id hx (h.live x id (o.serves hx))
  made x id hx := by
    have before := hx.imp (o.urgent x id) (o.prompt x id)
    exact made x id (h.live x id (before.imp_right .inl)) (h.made x id before)
  apart x y id hx hy := h.apart x y id (o.urgent x id hx) (o.prompt y id hy)
  ordered := ordered
  unarmed := unarmed

/-- Passes, view and measurement in flight are untouched. -/
theorem PassLaws.of_table {s t : State} (h : PassLaws s)
    (hu : t.sch.activeUrgent = s.sch.activeUrgent) (hp : t.sch.activePrompt = s.sch.activePrompt)
    (hv : t.sch.view = s.sch.view) (hc : t.cnv.state = s.cnv.state)
    (live : ∀ x id, liveSequence x id s → liveSequence x id t)
    (made : ∀ x id, liveSequence x id s → madeByRequest id s → madeByRequest id t)
    (unarmed : Unarmed t) : PassLaws t := by
  refine h.of_noneStarted ⟨fun x id => ?_, fun x id => ?_, fun x id => produces_congr hc⟩
    (fun x id _ => live x id) made ?_ unarmed
  · unfold HasUrgentPass
    rw [hu]
    exact fun e => e
  · unfold HasPromptPass
    rw [hp]
    exact fun e => e
  · unfold Ordered HasUrgentPass HasPromptPass
    rw [hv, hu, hp]
    exact h.ordered

theorem PassLaws.congr {s t : State} (hu : t.sch.activeUrgent = s.sch.activeUrgent)
    (hp : t.sch.activePrompt = s.sch.activePrompt) (hv : t.sch.view = s.sch.view)
    (hc : t.cnv.state = s.cnv.state) (hq : t.seq = s.seq) (h : PassLaws s) : PassLaws t := by
  have entry (id : SeqId) : sequence id t = sequence id s := by simp [sequence, hq]
  refine h.of_table hu hp hv hc (fun x id => liveSequence_of_entry (entry id))
    (fun x id _ e => ?_) (unarmed_congr hq h.unarmed)
  unfold madeByRequest at *
  rwa [entry]

/-! ### The start of a pass -/

/-- A PENDING sequence is made by request, and nothing serves it: its pass may start. -/
theorem PassLaws.startPass {s t : State} {id : SeqId} {q : Sequence} (h : PassLaws s)
    (hq : sequence id s = some q) (pending : q.state = .pending)
    (entry : ∀ j, sequence j t = if j = id then some q.startPass else sequence j s)
    (free : t.sch.view = .free) (idle : t.cnv.state = .idle)
    (urgent : ∀ y j, HasUrgentPass y j t → HasUrgentPass y j s ∨ (y = q.owner ∧ j = id))
    (prompt : ∀ y j, HasPromptPass y j t → HasPromptPass y j s ∨ (y = q.owner ∧ j = id))
    (one : (∀ y j, HasUrgentPass y j t → HasUrgentPass y j s)
      ∨ ∀ y j, HasPromptPass y j t → HasPromptPass y j s) : PassLaws t := by
  have own : sequence id t = some q.startPass := (entry id).trans (if_pos rfl)
  have dead := not_liveSequence hq (.inr (.inr pending))
  have request : q.kind ≠ .continuous := fun e => (h.unarmed id q hq e).2 pending
  have origin {y : Port} {j : SeqId} (e : HasUrgentPass y j t ∨ HasPromptPass y j t) :
      (HasUrgentPass y j s ∨ HasPromptPass y j s) ∨ (y = q.owner ∧ j = id) :=
    e.elim (fun e => (urgent y j e).imp_left .inl) fun e => (prompt y j e).imp_left .inr
  have alive {y : Port} {j : SeqId} (e : HasUrgentPass y j s ∨ HasPromptPass y j s) :
      liveSequence y j s := h.live y j (e.imp_right .inl)
  refine ⟨fun y j e => ?_, fun y j e => ?_, fun x y j hx hy => ?_, ordered_free free,
    unarmed_put entry (fun p e k => ?_) h.unarmed⟩
  · rcases or_assoc.mpr e with e | e
    · rcases origin e with e | ⟨rfl, rfl⟩
      · exact liveSequence_put entry dead y j (alive e)
      · exact (liveSequence_some own).mpr ⟨rfl, .inl rfl⟩
    · exact absurd e (not_produces_of_idle idle y j)
  · rcases origin e with e | ⟨rfl, rfl⟩
    · intro p hp
      rw [entry, if_neg] at hp
      · exact h.made y j e p hp
      · rintro rfl
        exact dead y (alive e)
    · intro p hp
      rw [own] at hp
      cases hp
      exact request
  · rcases one with old | old
    · rcases prompt y j hy with hy | ⟨rfl, rfl⟩
      · exact h.apart x y j (old x j hx) hy
      · exact dead x (alive (.inl (old x j hx)))
    · rcases urgent x j hx with hx | ⟨rfl, rfl⟩
      · exact h.apart x y j hx (old y j hy)
      · exact dead y (alive (.inr (old y j hy)))
  · cases e
    exact absurd k request

/-! ### The start and the end of a measurement -/

/-- A step starts of a sequence that is live and, by its class, has the pass that it needs. -/
theorem PassLaws.startStep {s t : State} {cls : WorkClass} {id : SeqId} {q : Sequence}
    {sh co : Bool} (h : PassLaws s) (hq : sequence id s = some q) (hb : Backed cls id q s)
    (view : t.sch.view = .busy ⟨cls, q.owner, .step ⟨id, q.index⟩, sh, co⟩)
    (urgent : t.sch.activeUrgent = s.sch.activeUrgent)
    (prompt : t.sch.activePrompt = s.sch.activePrompt) (table : t.seq = s.seq)
    (started : ∃ m, inFlight t = some m ∧ m.port = q.owner ∧ m.step = some ⟨id, q.index⟩) :
    PassLaws t := by
  have sameUrgent {x : Port} {j : SeqId} : HasUrgentPass x j t ↔ HasUrgentPass x j s := by
    unfold HasUrgentPass
    rw [urgent]
  have samePrompt {x : Port} {j : SeqId} : HasPromptPass x j t ↔ HasPromptPass x j s := by
    unfold HasPromptPass
    rw [prompt]
  have entry (j : SeqId) : sequence j t = sequence j s := by simp [sequence, table]
  have live : q.Live := by
    cases cls with
    | urgent =>
      obtain ⟨p, hp, rfl⟩ := hb
      exact ((liveSequence_some hq).mp (h.live _ _ (.inl ⟨p, hp, rfl, rfl⟩))).2
    | prompt =>
      obtain ⟨x, hx⟩ := hb
      exact ((liveSequence_some hq).mp (h.live _ _ (.inr (.inl hx)))).2
    | background => exact (candidate_iff.mp hb).2
  obtain ⟨m, hm, port, step⟩ := started
  refine ⟨fun x j e => liveSequence_of_entry (entry j) ?_, fun x j e p hp => ?_,
    fun x y j hx hy => h.apart x y j (sameUrgent.mp hx) (samePrompt.mp hy), fun r k hr hk => ?_,
    unarmed_congr table h.unarmed⟩
  · rcases e with e | e | ⟨m', k, hm', hk, rfl, rfl⟩
    · exact h.live x j (.inl (sameUrgent.mp e))
    · exact h.live x j (.inr (.inl (samePrompt.mp e)))
    · rw [hm] at hm'
      cases hm'
      rw [step] at hk
      cases hk
      exact (liveSequence_some hq).mpr ⟨port.symm, live⟩
  · rw [entry] at hp
    exact h.made x j (e.imp sameUrgent.mp samePrompt.mp) p hp
  · rw [view] at hr
    cases hr
    cases hk
    simp only [sameUrgent, samePrompt]
    constructor
    · rintro rfl
      obtain ⟨p, hp, e⟩ := hb
      exact ⟨p.owner, p, hp, rfl, e⟩
    · rintro rfl
      exact hb

theorem liveSequence_rewritten {s t : State} {r : Option StepRef}
    {f : StepRef → Sequence → Sequence} {x : Port} {id : SeqId} (h : t.seq = rewritten r f s)
    (hf : ∀ k q, r = some k → id = k.seq → sequence id s = some q → q.Live →
      (f k q).owner = q.owner ∧ (f k q).Live)
    (hl : liveSequence x id s) : liveSequence x id t := by
  obtain ⟨q, hq, ho, live⟩ := hl
  have entry := sequence_rewritten h id
  rw [hq, Option.map_some] at entry
  rw [liveSequence_some entry]
  cases r with
  | none => exact ⟨ho, live⟩
  | some k =>
    by_cases hj : id = k.seq
    · simp only [Option.elim_some, hj, if_true]
      have := hf k q rfl hj hq live
      exact ⟨this.1.trans ho, this.2⟩
    · simp only [Option.elim_some, hj, if_false]
      exact ⟨ho, live⟩

theorem Sequence.live_afterStep {q : Sequence} {i : Nat} (hi : q.isLast i = false) (h : q.Live) :
    (q.afterStep i).Live := by
  obtain e | ⟨_, _, e⟩ | ⟨_, last, _⟩ := q.afterStep_cases i
  · rwa [e]
  · rw [e]
    exact h
  · simp [hi] at last

theorem Sequence.unarmed_afterStep {q : Sequence} (i : Nat) (h : q.Unarmed) :
    (q.afterStep i).Unarmed := by
  obtain e | ⟨_, _, e⟩ | ⟨_, _, state, _, _, e, after⟩ := q.afterStep_cases i <;> rw [e]
  · exact h
  · exact h
  · intro (kind : q.kind = .continuous)
    obtain ⟨rfl, _⟩ | ⟨_, request⟩ | rfl := after
    · exact ⟨nofun, nofun⟩
    · exact absurd kind request
    · exact ⟨nofun, nofun⟩

theorem passUpkeep_activeUrgent (cls : Option WorkClass) (b : Bool) (s : State) :
    (passUpkeep cls b s).sch.activeUrgent
      = if b = true ∧ cls = some .urgent then none else s.sch.activeUrgent := by
  unfold passUpkeep
  split
  · next hb =>
    rcases cls with _ | _ | _ | _ <;> simp [hb]
  · next hb => simp [hb]

theorem passUpkeep_activePrompt (cls : Option WorkClass) (b : Bool) (s : State) :
    (passUpkeep cls b s).sch.activePrompt
      = if b = true ∧ cls = some .prompt then none else s.sch.activePrompt := by
  unfold passUpkeep
  split
  · next hb =>
    rcases cls with _ | _ | _ | _ <;> simp [hb]
  · next hb => simp [hb]

theorem hasUrgentPass_passUpkeep {cls : Option WorkClass} {b : Bool} {s t : State} {x : Port}
    {id : SeqId} (h : t.sch.activeUrgent = (passUpkeep cls b s).sch.activeUrgent)
    (ht : HasUrgentPass x id t) : HasUrgentPass x id s := by
  unfold HasUrgentPass at *
  rw [h, passUpkeep_activeUrgent] at ht
  split at ht
  · simp at ht
  · exact ht

theorem hasPromptPass_passUpkeep {cls : Option WorkClass} {b : Bool} {s t : State} {x : Port}
    {id : SeqId} (h : t.sch.activePrompt = (passUpkeep cls b s).sch.activePrompt)
    (ht : HasPromptPass x id t) : HasPromptPass x id s := by
  unfold HasPromptPass at *
  rw [h, passUpkeep_activePrompt] at ht
  split at ht
  · simp at ht
  · exact ht

theorem endsPass_step {o : Measured} {s : State} {k : StepRef} {q : Sequence}
    (ho : o.step = some k) (hq : sequence k.seq s = some q) : endsPass o s = q.isLast k.index := by
  simp [endsPass, ho, hq]

/-- After upkeep, a pass of the sequence that completed a step is left only if the step was not the
last. -/
theorem not_last_of_pass {s t : State} {m : Measurement} {o : Measured} {k : StepRef} {q : Sequence}
    {x : Port} (h : PassLaws s) (hv : viewAgrees s) (hc : cutsAgree s) (hm : inFlight s = some m)
    (ho : o.step = m.step) (hk : o.step = some k) (hq : sequence k.seq s = some q)
    (upkeep : t.sch.activeUrgent
        = (passUpkeep (serviceClass s) (endsPass o s) s).sch.activeUrgent
      ∧ t.sch.activePrompt = (passUpkeep (serviceClass s) (endsPass o s) s).sch.activePrompt)
    (pass : HasUrgentPass x k.seq t ∨ HasPromptPass x k.seq t) : q.isLast k.index = false := by
  obtain ⟨r, hr, hd⟩ := busy_of_inFlight hv hm
  have item : r.item = .step k := by
    cases hi : r.item with
    | step j =>
      have e := hd.step j hi
      rw [← ho, hk] at e
      cases e
      rfl
    | immediate c =>
      have e := (hd.immediate c hi).1
      rw [← ho, hk] at e
      cases e
  have cls : serviceClass s = some r.cls := by simp [serviceClass, hr]
  obtain ⟨urgent, prompt⟩ := upkeep
  have keptUrgent := hasUrgentPass_passUpkeep urgent (x := x) (id := k.seq)
  have keptPrompt := hasPromptPass_passUpkeep prompt (x := x) (id := k.seq)
  simp only [passUpkeep_activeUrgent, endsPass_step hk hq, cls, Option.some.injEq] at urgent
  simp only [passUpkeep_activePrompt, endsPass_step hk hq, cls, Option.some.injEq] at prompt
  obtain ⟨ofUrgent, ofPrompt⟩ := h.ordered r k hr item
  rw [← Bool.not_eq_true]
  intro last
  cases hcls : r.cls with
  | urgent =>
    obtain ⟨y, hy⟩ := ofUrgent hcls
    rw [if_pos ⟨last, hcls⟩] at urgent
    have gone : ¬ HasUrgentPass x k.seq t := by simp [HasUrgentPass, urgent]
    exact h.apart y x k.seq hy (keptPrompt (pass.resolve_left gone))
  | prompt =>
    obtain ⟨y, hy⟩ := ofPrompt hcls
    rw [if_pos ⟨last, hcls⟩] at prompt
    have gone : ¬ HasPromptPass x k.seq t := by simp [HasPromptPass, prompt]
    exact h.apart x y k.seq (keptUrgent (pass.resolve_right gone)) hy
  | background =>
    obtain ⟨k', q', hi, hq', _, hcand, _⟩ := (hc r hr).1 hcls
    rw [item] at hi
    cases hi
    exact h.made x k.seq (pass.imp keptUrgent keptPrompt) q' hq' (candidate_iff.mp hcand).1

/-- What an abandon order leaves in flight it did not name. -/
theorem produces_relieved {p : Measurement → Bool} {s t : State} {x : Port} {id : SeqId}
    (hv : t.sch.view = relievedView p s) (hc : t.cnv = relievedCnv p s) (h : Produces x id t) :
    ∃ m k, inFlight s = some m ∧ m.step = some k ∧ m.port = x ∧ k.seq = id ∧ p m = false := by
  rcases relieved_cases hv hc with ⟨_, idle⟩ | ⟨_, state, missed⟩
  · exact absurd h (not_produces_of_idle idle x id)
  · obtain ⟨m, k, hm, hk, hx, hid⟩ := produces_congr state h
    exact ⟨m, k, hm, hk, hx, hid, missed m hm⟩

/-- After an abandon order, the work in service has its pass still if passes of sequences that the
order does not name stay. -/
theorem ordered_relieved {p : Measurement → Bool} {s t : State}
    (hv : t.sch.view = relievedView p s) (hc : t.cnv = relievedCnv p s) (va : viewAgrees s)
    (urgent : ∀ m k y, inFlight s = some m → m.step = some k → p m = false →
      HasUrgentPass y k.seq s → HasUrgentPass y k.seq t)
    (prompt : ∀ m k y, inFlight s = some m → m.step = some k → p m = false →
      HasPromptPass y k.seq s → HasPromptPass y k.seq t)
    (h : Ordered s) : Ordered t := by
  rcases relieved_cases hv hc with ⟨free, _⟩ | ⟨view, state, missed⟩
  · exact ordered_free free
  · intro r k hr hk
    rw [view] at hr
    obtain ⟨m, hm, hd⟩ := inFlight_of_busy va hr
    obtain ⟨ofUrgent, ofPrompt⟩ := h r k hr hk
    exact ⟨fun e => (ofUrgent e).imp fun y => urgent m k y hm (hd.step k hk) (missed m hm),
      fun e => (ofPrompt e).imp fun y => prompt m k y hm (hd.step k hk) (missed m hm)⟩

/-! ### HALT and the end of a session -/

theorem withdraw_activeUrgent (id : SeqId) (st : SeqState) (s : State) :
    (withdraw id st s).sch.activeUrgent = if st = .running ∨ st = .stopping
      then s.sch.activeUrgent.filter fun p => p.seq != id else s.sch.activeUrgent := by
  cases st <;> rfl

theorem withdraw_activePrompt (id : SeqId) (st : SeqState) (s : State) :
    (withdraw id st s).sch.activePrompt = if st = .running ∨ st = .stopping
      then s.sch.activePrompt.filter fun p => !p.isSequence id else s.sch.activePrompt := by
  cases st <;> rfl

/-- HALT takes a live sequence from the active passes and leaves all others there (R74). -/
theorem hasUrgentPass_withdraw {id : SeqId} {st : SeqState} {s t : State}
    (h : t.sch.activeUrgent = (withdraw id st s).sch.activeUrgent) (x : Port) (j : SeqId) :
    HasUrgentPass x j t
      ↔ HasUrgentPass x j s ∧ (st = .running ∨ st = .stopping → j ≠ id) := by
  unfold HasUrgentPass
  rw [h, withdraw_activeUrgent]
  split
  · next live =>
    simp only [Option.filter_eq_some_iff, live, true_imp_iff, bne_iff_ne]
    constructor
    · rintro ⟨p, ⟨hp, hid⟩, hx, rfl⟩
      exact ⟨⟨p, hp, hx, rfl⟩, hid⟩
    · rintro ⟨⟨p, hp, hx, rfl⟩, hid⟩
      exact ⟨p, ⟨hp, hid⟩, hx, rfl⟩
  · next dead => simp [dead]

theorem hasPromptPass_withdraw {id : SeqId} {st : SeqState} {s t : State}
    (h : t.sch.activePrompt = (withdraw id st s).sch.activePrompt) (x : Port) (j : SeqId) :
    HasPromptPass x j t
      ↔ HasPromptPass x j s ∧ (st = .running ∨ st = .stopping → j ≠ id) := by
  unfold HasPromptPass
  rw [h, withdraw_activePrompt]
  split
  · next live => simp [Option.filter_eq_some_iff, live, PromptEntry.isSequence]
  · next dead => simp [dead]

theorem PassLaws.halt {s t : State} {id : SeqId} {q q' : Sequence} (h : PassLaws s)
    (va : viewAgrees s) (hq : sequence id s = some q) (rests : q'.state = .defined)
    (made : MadeAlike s t)
    (entry : ∀ j, sequence j t = if j = id then some q' else sequence j s)
    (hv : t.sch.view = relievedView (fun m => m.ofSequence id) s)
    (hc : t.cnv = relievedCnv (fun m => m.ofSequence id) s)
    (urgent : t.sch.activeUrgent = (withdraw id q.state s).sch.activeUrgent)
    (prompt : t.sch.activePrompt = (withdraw id q.state s).sch.activePrompt) : PassLaws t := by
  have hu := hasUrgentPass_withdraw urgent
  have hp := hasPromptPass_withdraw prompt
  have missed {m : Measurement} {k : StepRef} (hk : m.step = some k)
      (e : m.ofSequence id = false) : k.seq ≠ id := by
    simpa [Measurement.ofSequence, hk] using e
  have started : NoneStarted s t := by
    refine ⟨fun x j e => ((hu x j).mp e).1, fun x j e => ((hp x j).mp e).1, fun x j e => ?_⟩
    obtain ⟨m, k, hm, hk, hx, hj, _⟩ := produces_relieved hv hc e
    exact ⟨m, k, hm, hk, hx, hj⟩
  refine h.of_noneStarted started (fun x j e live => ?_) (fun x j _ => made.madeByRequest)
    (ordered_relieved hv hc va (fun m k y _ hk e o => (hu y k.seq).mpr ⟨o, fun _ => missed hk e⟩)
      (fun m k y _ hk e o => (hp y k.seq).mpr ⟨o, fun _ => missed hk e⟩) h.ordered)
    (unarmed_put entry (fun p e _ => ?_) h.unarmed)
  · have other : j ≠ id := by
      rcases e with e | e | e
      · rintro rfl
        exact ((hu x j).mp e).2 ((liveSequence_some hq).mp live).2 rfl
      · rintro rfl
        exact ((hp x j).mp e).2 ((liveSequence_some hq).mp live).2 rfl
      · obtain ⟨m, k, _, hk, _, rfl, hm⟩ := produces_relieved hv hc e
        exact missed hk hm
    exact liveSequence_of_entry ((entry j).trans (if_neg other)) live
  · cases e
    simp [rests]

theorem TornDown.keeps_passLaws {x : Port} {v : Session} {s t : State} (d : TornDown x v s t)
    (va : viewAgrees s) (h : PassLaws s) : PassLaws t := by
  have hu (y : Port) (j : SeqId) : HasUrgentPass y j t ↔ HasUrgentPass y j s ∧ y ≠ x := by
    unfold HasUrgentPass
    simp only [d.activeUrgent, Option.filter_eq_some_iff, bne_iff_ne]
    constructor
    · rintro ⟨p, ⟨hp, hy⟩, rfl, hj⟩
      exact ⟨⟨p, hp, rfl, hj⟩, hy⟩
    · rintro ⟨⟨p, hp, rfl, hj⟩, hy⟩
      exact ⟨p, ⟨hp, hy⟩, rfl, hj⟩
  have hp (y : Port) (j : SeqId) : HasPromptPass y j t ↔ HasPromptPass y j s ∧ y ≠ x := by
    simp [HasPromptPass, d.activePrompt, Option.filter_eq_some_iff]
  have kept {y : Port} {j : SeqId} (hy : y ≠ x) (live : liveSequence y j s) :
      liveSequence y j t := by
    obtain ⟨q, hq, rfl, hl⟩ := live
    refine ⟨q, ?_, rfl, hl⟩
    rw [d.sequence, hq, Option.filter_some_pos (by simpa using hy)]
  have other {m : Measurement} {k : StepRef} {y : Port} (hm : inFlight s = some m)
      (hk : m.step = some k) (e : (m.port == x) = false) (live : liveSequence y k.seq s) :
      y ≠ x := by
    obtain ⟨q, hq, rfl, _⟩ := live
    have own := (liveSequence_some hq).mp
      (h.live m.port k.seq (.inr (.inr ⟨m, k, hm, hk, rfl, rfl⟩)))
    rw [own.1]
    simpa using e
  have started : NoneStarted s t := by
    refine ⟨fun y j e => ((hu y j).mp e).1, fun y j e => ((hp y j).mp e).1, fun y j e => ?_⟩
    obtain ⟨m, k, hm, hk, hx, hj, _⟩ := produces_relieved d.view d.cnv e
    exact ⟨m, k, hm, hk, hx, hj⟩
  refine h.of_noneStarted started (fun y j e live => kept ?_ live) (fun y j _ e q hq => ?_)
    (ordered_relieved d.view d.cnv va
      (fun m k y hm hk e o => (hu y k.seq).mpr ⟨o, other hm hk e (h.live y _ (.inl o))⟩)
      (fun m k y hm hk e o => (hp y k.seq).mpr ⟨o, other hm hk e (h.live y _ (.inr (.inl o)))⟩)
      h.ordered)
    (fun j q hq => ?_)
  · rcases e with e | e | e
    · exact ((hu y j).mp e).2
    · exact ((hp y j).mp e).2
    · obtain ⟨m, _, _, _, rfl, _, e⟩ := produces_relieved d.view d.cnv e
      simpa using e
  · rw [d.sequence, Option.filter_eq_some_iff] at hq
    exact e q hq.1
  · rw [d.sequence, Option.filter_eq_some_iff] at hq
    exact h.unarmed j q hq.1

/-! ### Every move keeps the laws on passes -/

theorem pending_of_urgent {s : State} {e : UrgentEntry} {rest : List UrgentEntry} {q : Sequence}
    (hr : requestsCounted s) (hu : s.sch.urgent = e :: rest) (hq : sequence e.seq s = some q) :
    q.state = .pending :=
  (pendingAt_some hq).mp (pending_of_request hr (by simp [requestsOf, hu])).1

theorem pending_of_prompt {s : State} {x : Port} {id : SeqId} {rest : List PromptEntry}
    (hr : requestsAgree s) (hp : s.sch.prompt = ⟨x, .sequence id⟩ :: rest) :
    ∃ q, sequence id s = some q ∧ q.owner = x ∧ q.state = .pending := by
  obtain ⟨q, hq, owner⟩ := prompt_owner (e := ⟨x, .sequence id⟩) hr.2 (hp ▸ List.mem_cons_self) rfl
  have waits := (pending_of_request hr.1 (id := id) (by simp [requestsOf, hp])).1
  exact ⟨q, hq, owner, (pendingAt_some hq).mp waits⟩

theorem Work.keeps_passLaws {s : State} {c : Converter} {q : SeqUnit} {k : Scheduler}
    (w : Work s c q k) (hv : viewAgrees s) (hc : cutsAgree s) (hr : requestsAgree s)
    (h : PassLaws s) : PassLaws (worked c q k s) := by
  have made := w.madeAlike
  have request {x : Port} (id : SeqId) (_ : liveSequence x id s) := made.madeByRequest (id := id)
  cases w with
  | progress c same =>
    rcases same with same | ⟨m, m', hm, hm', cont⟩
    · exact h.congr (s := s) rfl rfl rfl same rfl
    · refine h.of_noneStarted ⟨fun _ _ e => e, fun _ _ e => e, ?_⟩ (fun _ _ _ e => e)
        (fun _ _ _ e => e) h.ordered h.unarmed
      rintro x id ⟨n, k, hn, hk, rfl, rfl⟩
      cases hn.symm.trans hm'
      exact ⟨m, k, hm, cont.step.symm.trans hk, cont.port.symm, rfl⟩
  | trimLoaded c _ idle =>
    exact h.of_noneStarted ⟨fun _ _ e => e, fun _ _ e => e,
      fun x id e => absurd e (not_produces_of_idle idle x id)⟩ (fun _ _ _ e => e)
      (fun _ _ _ e => e) (ordered_free rfl) h.unarmed
  | entry id q q' hq step =>
    have entry (j : SeqId) := sequence_put (s := s)
      (t := worked s.cnv (s.seq.put id (some q')) s.sch s) (id := id) rfl j
    refine h.of_table (s := s) rfl rfl rfl rfl (fun x j live => ?_) (fun _ => request)
      (unarmed_put entry (fun p e kind => ?_) h.unarmed)
    · by_cases hj : j = id
      · subst hj
        obtain ⟨owner, live⟩ := (liveSequence_some hq).mp live
        exact (liveSequence_some ((entry j).trans (if_pos rfl))).mpr
          ⟨step.owner.trans owner, step.live live⟩
      · exact liveSequence_of_entry ((entry j).trans (if_neg hj)) live
    · cases e
      obtain ⟨armed, pending⟩ := h.unarmed id q hq (step.kind ▸ kind)
      exact ⟨fun e => armed (step.armed kind e), fun e => pending (step.pending.mp e)⟩
  | stopPending id q hq hp =>
    exact h.of_table (s := s) rfl rfl rfl rfl
      (liveSequence_put (sequence_put rfl) (not_liveSequence hq (.inr (.inr hp))))
      (fun _ => request) (unarmed_put (sequence_put rfl)
        (fun p e _ => by cases e; exact ⟨nofun, nofun⟩) h.unarmed)
  | halt id q hq => exact h.halt hv hq rfl made (sequence_put rfl) rfl rfl rfl rfl
  | run id q hq ha hk =>
    exact h.of_table (s := s) rfl rfl rfl rfl
      (liveSequence_put (sequence_put rfl) (not_liveSequence hq (.inr (.inl ha))))
      (fun _ => request) (unarmed_put (sequence_put rfl)
        (fun p e kind => by cases e; exact absurd kind hk) h.unarmed)
  | arrive e q hq ha =>
    exact h.of_table (s := s) rfl rfl rfl rfl
      (liveSequence_put (sequence_put rfl) (not_liveSequence hq (.inr (.inl ha))))
      (fun _ => request) (unarmed_put (sequence_put rfl)
        (fun p e kind => by cases e; exact absurd ha (h.unarmed _ q hq kind).1) h.unarmed)
  | popUrgent e rest q free hu hq =>
    refine h.startPass hq (pending_of_urgent hr.1 hu hq) (sequence_put rfl) free
      (idle_of_viewAgrees hv free) ?_ (fun _ _ e => .inl e) (.inr fun _ _ e => e)
    rintro y j ⟨p, hp, rfl, rfl⟩
    cases hp
    exact .inr ⟨rfl, rfl⟩
  | popPrompt e rest free hp =>
    have idle := idle_of_viewAgrees hv free
    obtain ⟨x, item⟩ := e
    cases item with
    | sequence id =>
      obtain ⟨q, hq, rfl, pending⟩ := pending_of_prompt hr hp
      refine h.startPass hq pending (fun j => ?_) free idle (fun _ _ e => .inl e) ?_
        (.inl fun _ _ e => e)
      · refine (sequence_updateSequence id j Sequence.startPass s).trans ?_
        rw [hq]
        rfl
      · intro y j e
        cases e
        exact .inr ⟨rfl, rfl⟩
    | immediate c n =>
      exact h.of_noneStarted (s := s) ⟨fun _ _ e => e, fun _ _ e => (nomatch e), fun _ _ e => e⟩
        (fun _ _ _ e => e) (fun _ _ _ e => e) (ordered_free free) h.unarmed
  | bookkeep a np ls ha =>
    have same (x : Port) (id : SeqId) := hasUrgentPass_congr (s := s) (x := x) (id := id)
      (t := worked s.cnv s.seq { s.sch with activeUrgent := a, nextPort := np, lastServed := ls } s)
      ha
    refine h.of_noneStarted ⟨fun x id => (same x id).mp, fun _ _ e => e, fun _ _ e => e⟩
      (fun _ _ _ e => e) (fun _ _ _ e => e) (fun r k hr hk => ?_) h.unarmed
    simp only [same]
    exact h.ordered r k hr hk
  | orderCut r hr =>
    refine h.of_noneStarted (s := s) ⟨fun _ _ e => e, fun _ _ e => e, fun _ _ e => e⟩
      (fun _ _ _ e => e) (fun _ _ _ e => e) (fun r' k hr' hk => ?_) h.unarmed
    cases hr'
    exact h.ordered r k hr hk
  | pendCut m t r hm hr =>
    refine h.of_noneStarted (s := s) ⟨fun _ _ e => e, fun _ _ e => e, ?_⟩
      (fun _ _ _ e => e) (fun _ _ _ e => e) h.ordered h.unarmed
    rintro x id ⟨n, k, hn, hk, rfl, rfl⟩
    cases hn
    exact ⟨m, k, by simp [inFlight, hm], hk, rfl, rfl⟩
  | cut m hm hcut =>
    refine h.of_noneStarted (s := s) ⟨fun _ _ e => e, fun _ _ e => e,
        fun x id e => absurd e (not_produces_of_idle rfl x id)⟩
      (fun x id _ => liveSequence_rewritten rfl fun _ _ _ _ _ live => ⟨rfl, live⟩)
      (fun _ => request) (ordered_free rfl) (unarmed_rewritten rfl (fun _ _ e => e) h.unarmed)
  | complete m o hm ho =>
    refine h.of_noneStarted ⟨fun x id => hasUrgentPass_passUpkeep rfl,
        fun x id => hasPromptPass_passUpkeep rfl,
        fun x id e => absurd e (not_produces_of_idle rfl x id)⟩
      (fun x id e => liveSequence_rewritten rfl fun k q hk hid hq live => ?_)
      (fun _ => request) (ordered_free rfl)
      (unarmed_rewritten rfl (fun k _ => Sequence.unarmed_afterStep k.index) h.unarmed)
    subst hid
    have pass := (or_assoc.mpr e).resolve_right (not_produces_of_idle rfl x k.seq)
    exact ⟨(Sequence.make_eq (q.make_afterStep k.index)).1,
      Sequence.live_afterStep (not_last_of_pass h hv hc hm ho hk hq ⟨rfl, rfl⟩ pass) live⟩
  | startStep cls id q st free hq hb =>
    obtain ⟨m, hm, port, step, _⟩ := inFlight_converterStart (idle_of_viewAgrees hv free)
      (t := worked (converterStart q.owner (some ⟨id, q.index⟩) st.channel st.samples s).cnv s.seq
        { s.sch with view := .busy ⟨cls, q.owner, .step ⟨id, q.index⟩,
            cls == .background && q.restarts == 3, false⟩ } s) rfl
    exact h.startStep hq hb rfl rfl rfl rfl ⟨m, hm, port, step⟩
  | startNow x c n free =>
    obtain ⟨m, hm, port, step, _⟩ := inFlight_converterStart (idle_of_viewAgrees hv free)
      (t := worked (converterStart x none c n s).cnv s.seq
        { s.sch with view := .busy ⟨.prompt, x, .immediate c, false, false⟩ } s) rfl
    refine h.of_noneStarted (s := s) ⟨fun _ _ e => e, fun _ _ e => e, ?_⟩
      (fun _ _ _ e => e) (fun _ _ _ e => e) (fun r k hr hk => ?_) h.unarmed
    · rintro y id ⟨n, k, hn, hk, _⟩
      rw [hm] at hn
      cases hn
      rw [step] at hk
      cases hk
    · cases hr
      cases hk
  | _ => exact h.congr (s := s) rfl rfl rfl rfl rfl

theorem Move.keeps_passLaws {s t : State} (m : Move s t) (hv : viewAgrees s) (hc : cutsAgree s)
    (hr : requestsAgree s) (h : PassLaws s) : PassLaws t := by
  cases m with
  | work w => exact w.keeps_passLaws hv hc hr h
  | define x id k steps hid =>
    have entry (j : SeqId) := tget_tset s.seq.table id j
      (some ⟨x, k, steps, .defined, 0, 0, 0, 0⟩)
    have dead (y : Port) := not_liveSequence_none (x := y) hid
    exact h.of_table (s := s) rfl rfl rfl rfl (liveSequence_put entry dead)
      (madeByRequest_put entry dead)
      (unarmed_put entry (fun p e _ => by cases e; exact ⟨nofun, nofun⟩) h.unarmed)
  | delete id q hq hd =>
    have entry (j : SeqId) := tget_tset s.seq.table id j none
    have dead := not_liveSequence hq (.inl hd)
    exact h.of_table (s := s) rfl rfl rfl rfl (liveSequence_put entry dead)
      (madeByRequest_put entry dead) (unarmed_put entry nofun h.unarmed)
  | teardown d => exact d.keeps_passLaws hv h
  | reset f => exact (passesAgree_iff _).mp f.passesAgree
  | _ => exact h.congr (s := s) rfl rfl rfl rfl rfl

theorem Move.keeps_passesAgree {s t : State} (m : Move s t) (hv : viewAgrees s) (hc : cutsAgree s)
    (hr : requestsAgree s) (h : passesAgree s) : passesAgree t :=
  (passesAgree_iff t).mpr (m.keeps_passLaws hv hc hr ((passesAgree_iff s).mp h))

/-- The second half of Law 4: what serves a sequence is live, so it is not PENDING. -/
theorem PassLaws.not_serves {s : State} (h : PassLaws s) {id : SeqId} {q : Sequence}
    (hq : sequence id s = some q) (hp : q.state = .pending) (x : Port) : ¬ Serves x id s :=
  fun e => not_liveSequence hq (.inr (.inr hp)) x (h.live x id e)

/-- Settles O53: a request comes and goes with the state PENDING, and a pass and a measurement start
only of a sequence that is, or by the start becomes, live. -/
theorem requestsAgreeKept : Obligations.RequestsAgreeKept := by
  refine ⟨fun _ _ hs => step_keeps (fun _ _ m => m.keeps_requestsAgree) hs,
    fun _ _ hs e => (step_keeps (P := fun s =>
        viewAgrees s ∧ restartsSane s ∧ cutsAgree s ∧ requestsAgree s ∧ passesAgree s)
      (fun _ _ m ⟨hv, hr, hc, hq, hp⟩ => ⟨m.keeps_viewAgrees hv, m.keeps_restartsSane hv hc hr,
        m.keeps_cutsAgree hv hr hc, m.keeps_requestsAgree hq, m.keeps_passesAgree hv hc hq hp⟩)
      hs e).2.2.2.2,
    fun s hs id q hq pending => ?_⟩
  have unserved := ((passesAgree_iff s).mp hs).not_serves hq pending
  refine ⟨fun p hp e => unserved p.owner (.inl ⟨p, hp, rfl, e⟩), fun p hp e => ?_,
    fun m k hm hk e => unserved m.port (.inr (.inr ⟨m, k, hm, hk, rfl, e⟩))⟩
  obtain ⟨x, item⟩ := p
  cases e
  exact unserved x (.inr (.inl hp))

end Sys2Proof.Machine
end

section
/-! ## Channels in use -/

namespace Sys2Proof.Machine

open Sys2Proof.Safety

/-! ### Law 6 by sequences and monitors -/

/-- A channel that port `x` may use: neither foreign nor absorbed (R42). -/
def Usable (x : Port) (c : Channel) (s : State) : Prop :=
  foreignTo x c s = false ∧ absorbed c s = false

/-- The owner may use all channels that the sequence names. -/
def Sequence.Holdable (q : Sequence) (s : State) : Prop :=
  ∀ st ∈ q.steps, Usable q.owner st.channel s

/-- Law 6 for the sequences. -/
def SequencesHeld (s : State) : Prop :=
  ∀ id q, sequence id s = some q → q.state.enabled = true → q.Holdable s

/-- Law 6 for the monitors. -/
def MonitorsHeld (s : State) : Prop :=
  ∀ i x, (monitor i s).state ≠ .off → (monitor i s).owner = some x →
    Usable x (monitor i s).channel s

theorem channelsHeld_iff (s : State) : channelsHeld s ↔ SequencesHeld s ∧ MonitorsHeld s :=
  and_congr_left' ⟨fun h id q hq e st => h id q st hq e, fun h id q st hq e => h id q hq e st⟩

/-- Use is a matter of owners, and of the modes of even partners (R7). -/
theorem usable_iff {x : Port} {c : Channel} {s : State} : Usable x c s
    ↔ ∀ e, external c = some e → (tget s.cfe e).owner ≠ some (otherPort x)
      ∧ ∀ p, evenPartner e = some p → (tget s.cfe p).mode ≠ .diff := by
  unfold Usable foreignTo absorbed absorbedExt
  cases external c with
  | none => simp
  | some e => cases hp : evenPartner e <;> simp [hp]

theorem usable_congr {x : Port} {c : Channel} {s t : State} (h : t.cfe = s.cfe) :
    Usable x c t ↔ Usable x c s := by
  rw [usable_iff, usable_iff, h]

/-- A channel that returns to its defaults is foreign to nobody and absorbs nothing. -/
theorem usable_of_defaults {x : Port} {c : Channel} {s t : State}
    (h : ∀ e, tget t.cfe e = defaultDescriptor ∨ tget t.cfe e = tget s.cfe e)
    (hs : Usable x c s) : Usable x c t := by
  rw [usable_iff] at hs ⊢
  intro e he
  obtain ⟨foreign, absorbs⟩ := hs e he
  refine ⟨?_, fun p hp => ?_⟩
  · rcases h e with d | d <;> rw [d]
    · exact nofun
    · exact foreign
  · rcases h p with d | d <;> rw [d]
    · exact nofun
    · exact absorbs p hp

theorem Sequence.holdable_of_make {q q' : Sequence} {s t : State} (hc : t.cfe = s.cfe)
    (m : q'.make = q.make) (h : q.Holdable s) : q'.Holdable t := by
  obtain ⟨owner, _, steps⟩ := make_eq m
  unfold Holdable at *
  rw [owner, steps]
  exact fun st hst => (usable_congr hc).mpr (h st hst)

/-! ### What is in use -/

theorem usedBySequences_of_enabled {s : State} {id : SeqId} {q : Sequence} {st : SeqStep}
    (hq : sequence id s = some q) (he : q.state.enabled = true) (hst : st ∈ q.steps) :
    usedBySequences q.owner st.channel s = true := by
  refine List.any_eq_true.mpr ⟨id, mem_allSeqs id, ?_⟩
  simp only [hq, he, beq_self_eq_true, Bool.true_and, Sequence.names, List.any_eq_true, beq_iff_eq]
  exact ⟨st, hst, rfl⟩

theorem usedByMonitors_of_on {s : State} {i : MonId} {x : Port}
    (hs : (monitor i s).state ≠ .off) (ho : (monitor i s).owner = some x) :
    usedByMonitors x (monitor i s).channel s = true := by
  refine List.any_eq_true.mpr ⟨i, mem_allEights i, ?_⟩
  simp [ho, hs]

/-- A sequence or a monitor of port `x` uses channel `c` (R41, R116). -/
def InUse (x : Port) (c : Channel) (s : State) : Prop :=
  usedBySequences x c s = true ∨ usedByMonitors x c s = true

/-- No sequence is enabled and no monitor goes ON; the channels in use stay usable. -/
theorem channelsHeld_of_usable {s t : State}
    (sequences : ∀ id q, sequence id t = some q → sequence id s = some q)
    (monitors : ∀ i, (monitor i t).state ≠ .off → (monitor i s).state ≠ .off
      ∧ (monitor i t).owner = (monitor i s).owner ∧ (monitor i t).channel = (monitor i s).channel)
    (usable : ∀ x c, InUse x c s → Usable x c s → Usable x c t) (hs : channelsHeld s) :
    channelsHeld t := by
  rw [channelsHeld_iff] at hs ⊢
  obtain ⟨ofSequences, ofMonitors⟩ := hs
  refine ⟨fun id q hq he st hst => ?_, fun i x hi ho => ?_⟩
  · have before := sequences id q hq
    exact usable _ _ (.inl (usedBySequences_of_enabled before he hst))
      (ofSequences id q before he st hst)
  · obtain ⟨on, owner, channel⟩ := monitors i hi
    rw [owner] at ho
    rw [channel]
    exact usable _ _ (.inr (usedByMonitors_of_on on ho)) (ofMonitors i x on ho)

theorem channelsHeld_congr {s t : State} (hc : t.cfe = s.cfe) (hq : t.seq = s.seq)
    (hm : t.mon = s.mon) (hs : channelsHeld s) : channelsHeld t :=
  channelsHeld_of_usable (fun id q e => by simpa [sequence, hq] using e)
    (fun i e => by simpa [monitor, hm] using e) (fun _ _ _ => (usable_congr hc).mpr) hs

/-! ### Work enables only what was enabled -/

theorem sequencesHeld_put {s t : State} {id : SeqId} {v : Option Sequence} (hc : t.cfe = s.cfe)
    (h : ∀ j, sequence j t = if j = id then v else sequence j s)
    (hv : ∀ q, v = some q → q.state.enabled = true → q.Holdable s) (hs : SequencesHeld s) :
    SequencesHeld t := fun j q hq he => by
  rw [h] at hq
  refine Sequence.holdable_of_make (s := s) hc rfl ?_
  split at hq
  · exact hv q hq he
  · exact hs j q hq he

theorem sequencesHeld_rewritten {s t : State} {r : Option StepRef}
    {f : StepRef → Sequence → Sequence} (hc : t.cfe = s.cfe) (h : t.seq = rewritten r f s)
    (made : ∀ k q, (f k q).make = q.make)
    (enabled : ∀ k q, r = some k → sequence k.seq s = some q → (f k q).state.enabled = true →
      q.state.enabled = true)
    (hs : SequencesHeld s) : SequencesHeld t := fun j p hp he => by
  rw [sequence_rewritten h, Option.map_eq_some_iff] at hp
  obtain ⟨q, hq, rfl⟩ := hp
  cases r with
  | none => exact Sequence.holdable_of_make hc rfl (hs j q hq he)
  | some k =>
    by_cases hj : j = k.seq
    · simp only [Option.elim_some, hj, if_true] at he ⊢
      subst hj
      exact Sequence.holdable_of_make hc (made k q) (hs k.seq q hq (enabled k q rfl hq he))
    · simp only [Option.elim_some, hj, if_false] at he ⊢
      exact Sequence.holdable_of_make hc rfl (hs j q hq he)

theorem sequencesHeld_congr {s t : State} (hc : t.cfe = s.cfe) (hq : t.seq = s.seq)
    (hs : SequencesHeld s) : SequencesHeld t := fun id q e he =>
  Sequence.holdable_of_make hc rfl (hs id q (by simpa [sequence, hq] using e) he)

theorem Sequence.enabled_afterStep {q : Sequence} {i : Nat}
    (h : (q.afterStep i).state.enabled = true) : q.state.enabled = true := by
  have live (l : q.Live) : q.state.enabled = true := by
    rcases l with e | e <;> rw [e] <;> rfl
  obtain e | ⟨l, _⟩ | ⟨l, _⟩ := q.afterStep_cases i
  · rwa [e] at h
  · exact live l
  · exact live l

theorem Work.keeps_sequencesHeld {s : State} {c : Converter} {q : SeqUnit} {k : Scheduler}
    (w : Work s c q k) (hr : requestsAgree s) (hs : SequencesHeld s) :
    SequencesHeld (worked c q k s) := by
  cases w with
  | entry id q q' hq step =>
    refine sequencesHeld_put (s := s) rfl (sequence_put rfl) (fun p e he => ?_) hs
    cases e
    refine Sequence.holdable_of_make (s := s) rfl
      (show q'.make = q.make by simp [Sequence.make, step.owner, step.kind, step.steps]) ?_
    rcases step.enabled he with old | new
    · exact hs id q hq old
    · exact new
  | stopPending id q =>
    exact sequencesHeld_put (s := s) rfl (sequence_put rfl) (fun p e he => by cases e; cases he) hs
  | halt id q =>
    exact sequencesHeld_put (s := s) rfl (sequence_put rfl) (fun p e he => by cases e; cases he) hs
  | run id q hq ha =>
    refine sequencesHeld_put (s := s) rfl (sequence_put rfl) (fun p e _ => ?_) hs
    cases e
    exact hs id q hq (by rw [ha]; rfl)
  | arrive e q hq ha =>
    refine sequencesHeld_put (s := s) rfl (sequence_put rfl) (fun p e _ => ?_) hs
    cases e
    exact hs _ q hq (by rw [ha]; rfl)
  | popUrgent e rest q _ hu hq =>
    refine sequencesHeld_put (s := s) rfl (sequence_put rfl) (fun p e _ => ?_) hs
    cases e
    exact hs _ q hq (by rw [pending_of_urgent hr.1 hu hq]; rfl)
  | popPrompt e rest _ hp =>
    obtain ⟨x, item⟩ := e
    cases item with
    | sequence id =>
      obtain ⟨q, hq, _, pending⟩ := pending_of_prompt hr hp
      refine sequencesHeld_put (s := s) rfl (sequence_updateSequence id · Sequence.startPass s)
        (fun p e _ => ?_) hs
      rw [hq] at e
      cases e
      exact hs id q hq (by rw [pending]; rfl)
    | immediate c n => exact sequencesHeld_congr (s := s) rfl rfl hs
  | cut => exact sequencesHeld_rewritten (s := s) rfl rfl (fun _ _ => rfl) (fun _ _ _ _ e => e) hs
  | complete =>
    exact sequencesHeld_rewritten (s := s) rfl rfl (fun k q => q.make_afterStep k.index)
      (fun _ _ _ _ => Sequence.enabled_afterStep) hs
  | _ => exact sequencesHeld_congr (s := s) rfl rfl hs

theorem Work.keeps_channelsHeld {s : State} {c : Converter} {q : SeqUnit} {k : Scheduler}
    (w : Work s c q k) (hr : requestsAgree s) (hs : channelsHeld s) :
    channelsHeld (worked c q k s) := by
  rw [channelsHeld_iff] at hs ⊢
  exact ⟨w.keeps_sequencesHeld hr hs.1, fun i x hi ho => (usable_congr rfl).mpr (hs.2 i x hi ho)⟩

/-! ### Writes and claims respect what is in use -/

theorem oddPartner_of_evenPartner {c e : ExtChannel} (h : evenPartner e = some c) :
    oddPartner c = some e := by
  unfold evenPartner at h
  split at h
  · next odd =>
    cases h
    unfold oddPartner
    have even : (e.val - 1) % 2 = 0 ∧ e.val - 1 + 1 < 24 := by omega
    rw [dif_pos even]
    exact congrArg some (Fin.ext (show e.val - 1 + 1 = e.val by omega))
  · cases h

theorem channelOf_external {c : Channel} {e : ExtChannel} (h : external c = some e) :
    channelOf e = c := by
  unfold external at h
  split at h
  · cases h
    rfl
  · cases h

/-- A write to DIFF absorbs only a partner of the writer's that is not in use (R9). -/
theorem usable_write {s t : State} {x : Port} {c : ExtChannel} {d : Descriptor}
    (ht : t.cfe = tset s.cfe c d) (owner : d.owner = (tget s.cfe c).owner)
    (hd : d.mode = .diff → ∃ o, oddPartner c = some o ∧ (tget s.cfe o).owner = some x
      ∧ ((tget s.cfe c).mode = .single → partnerInUse x o s = false))
    (y : Port) (ch : Channel) (used : InUse y ch s) (hs : Usable y ch s) : Usable y ch t := by
  rw [usable_iff] at hs ⊢
  intro e he
  obtain ⟨foreign, absorbs⟩ := hs e he
  refine ⟨?_, fun p hp => ?_⟩ <;> rw [ht, tget_tset] <;> split
  · next eq => rwa [owner, ← eq]
  · exact foreign
  · next eq =>
    subst eq
    intro diff
    obtain ⟨o, ho, hx, free⟩ := hd diff
    rw [oddPartner_of_evenPartner hp] at ho
    cases ho
    have single : (tget s.cfe p).mode = .single := by
      cases hm : (tget s.cfe p).mode with
      | single => rfl
      | diff => exact absurd hm (absorbs p hp)
    have same : y = x := by
      by_contra other
      rw [hx, eq_otherPort_of_ne other, otherPort_otherPort] at foreign
      exact foreign rfl
    have idle := free single
    simp only [partnerInUse, Bool.or_eq_false_iff, channelOf_external he, ← same] at idle
    obtain ⟨⟨⟨noSequence, noMonitor⟩, _⟩, _⟩ := idle
    simp [InUse, noSequence, noMonitor] at used
  · exact absorbs p hp

/-- A channel is granted only where the other port does not use it (R136). -/
theorem usable_grant {s : State} {r : Resource} {x : Port} (hu : inUseAgainstClaim x r s = false)
    (y : Port) (ch : Channel) (used : InUse y ch s) (hs : Usable y ch s) :
    Usable y ch (reowned r (some x) s) := by
  rw [usable_iff] at hs ⊢
  intro e he
  obtain ⟨foreign, absorbs⟩ := hs e he
  refine ⟨?_, fun p hp => ?_⟩ <;> rw [tget_reowned_cfe] <;> split
  · next eq =>
    subst eq
    intro other
    simp only [Option.elim_some, Option.some.injEq] at other
    simp only [inUseAgainstClaim, other, otherPort_otherPort, channelOf_external he,
      Bool.or_eq_false_iff] at hu
    simp [InUse, hu] at used
  · exact foreign
  · exact absorbs p hp
  · exact absorbs p hp

theorem tget_reowned_none (r : Resource) (s : State) (e : ExtChannel) :
    tget (reowned r none s).cfe e = defaultDescriptor
      ∨ tget (reowned r none s).cfe e = tget s.cfe e := by
  rw [tget_reowned_cfe]
  split
  · exact .inl rfl
  · exact .inr rfl

/-! ### Every move keeps Law 6 -/

theorem Move.keeps_channelsHeld {s t : State} (m : Move s t) (hc : copiesAgree s)
    (hm : monitorsSane s) (hr : requestsAgree s) (hs : channelsHeld s) : channelsHeld t := by
  cases m with
  | report k =>
    refine channelsHeld_of_usable (s := s) (fun _ _ e => e) (fun i on => ?_)
      (fun _ _ _ => (usable_congr rfl).mpr) hs
    have evaluated := k.monitors i
    exact ⟨fun off => on (by rw [evaluated.off off, off]), evaluated.owner, evaluated.channel⟩
  | work w => exact w.keeps_channelsHeld hr hs
  | write x c range mode settle ho hd =>
    exact channelsHeld_of_usable (s := s) (fun _ _ e => e) (fun _ on => ⟨on, rfl, rfl⟩)
      (usable_write rfl rfl hd) hs
  | grant r x hn hu =>
    refine channelsHeld_of_usable (s := s) (fun _ _ e => e) (fun i on => ?_) (usable_grant hu) hs
    rw [monitor_reowned] at on ⊢
    split at on
    · next eq =>
      subst eq
      have released := hm.2 i ((hc.2.1 i).trans hn)
      exact absurd (congrArg Monitor.state released) on
    · next eq => exact ⟨on, by rw [if_neg eq], by rw [if_neg eq]⟩
  | release r x =>
    refine channelsHeld_of_usable (s := s) (fun _ _ e => e) (fun i on => ?_)
      (fun _ _ _ => usable_of_defaults (tget_reowned_none r s)) hs
    rw [monitor_reowned] at on ⊢
    split at on
    · exact absurd rfl on
    · next eq => exact ⟨on, by rw [if_neg eq], by rw [if_neg eq]⟩
  | monitor x i m ho hx _ hon =>
    have entry (j : MonId) : Machine.monitor j (setMonitorAt i m s)
        = if j = i then m else Machine.monitor j s :=
      tget_tset ..
    rw [channelsHeld_iff] at hs ⊢
    refine ⟨sequencesHeld_congr (s := s) rfl rfl hs.1, fun j y on own => ?_⟩
    refine (usable_congr (s := s) rfl).mpr ?_
    rw [entry] at on own ⊢
    split
    · next eq =>
      rw [if_pos eq] at on own
      rw [hx] at own
      cases own
      exact hon on
    · next eq =>
      rw [if_neg eq] at on own
      exact hs.2 j y on own
  | define x id k steps =>
    rw [channelsHeld_iff] at hs ⊢
    refine ⟨sequencesHeld_put (s := s) rfl (fun _ => tget_tset ..) (fun q e he => ?_) hs.1,
      fun i y on own => (usable_congr rfl).mpr (hs.2 i y on own)⟩
    cases e
    cases he
  | delete id q =>
    rw [channelsHeld_iff] at hs ⊢
    exact ⟨sequencesHeld_put (s := s) rfl (fun _ => tget_tset ..) nofun hs.1,
      fun i y on own => (usable_congr rfl).mpr (hs.2 i y on own)⟩
  | @teardown x v _ d =>
    refine channelsHeld_of_usable (fun id q e => ?_) (fun i on => ?_)
      (fun _ _ _ => usable_of_defaults fun e => ?_) hs
    · rw [d.sequence, Option.filter_eq_some_iff] at e
      exact e.1
    · rw [d.mon] at on ⊢
      split at on
      · exact absurd rfl on
      · next eq => exact ⟨on, by rw [if_neg eq], by rw [if_neg eq]⟩
    · rw [d.cfe]
      split
      · exact .inl rfl
      · exact .inr rfl
  | reset f => exact f.channelsHeld
  | _ => exact channelsHeld_congr (s := s) rfl rfl rfl hs

/-- Settles O59: a monitor leaves its ranges by no evaluation; a channel changes hands or is
absorbed only out of use, and comes into use only where it may be used. -/
theorem monitorsSaneKept : Obligations.MonitorsSaneKept :=
  ⟨fun _ _ hs => step_keeps (fun _ _ m => m.keeps_monitorsSane) hs, fun _ _ hs e =>
    (step_keeps (P := fun s => copiesAgree s ∧ monitorsSane s ∧ requestsAgree s ∧ channelsHeld s)
      (fun _ _ m ⟨hc, hm, hr, hh⟩ => ⟨m.keeps_copiesAgree hc, m.keeps_monitorsSane hm,
        m.keeps_requestsAgree hr, m.keeps_channelsHeld hc hm hr hh⟩)
      hs e).2.2.2⟩

end Sys2Proof.Machine
end

section
/-! ## What power-on leaves (R16 to R19, R119, R162) -/

namespace Sys2Proof.Machine

/-- The levels taken by a latch that a reset has left TRIPPED: an active TRIPIN adds EXT, with no
notice (R120, R121). -/
theorem takeLevels_of_tripped (l : LineLevels) {s : State} (h : s.trp.state = .tripped) :
    takeLevels l s
      = { s with
          trg := { s.trg with
            line := tmap s.trg.line fun n r => { r with level := tget (trgLevels l) n } }
          tmb := { s.tmb with counter := 0, subTick := 0, syncLevel := l.sync }
          trp := { s.trp with
            tripin := tripinOf l.tripin
            causes := if l.tripin = .low then s.trp.causes ||| causeBit .ext else s.trp.causes }
          host := ⟨hostAtResetEnd l.selectA, hostAtResetEnd l.selectB⟩
          resetActive := false } := by
  unfold takeLevels
  cases l.tripin <;> simp [tripinOf, addCauses, h, State.setTrp]

/-- Every block after POWER_ON. Of the state before it the trim store, the choice counter and the
queue of commands remain. -/
theorem powerOn_eq (tpol : Level) (l : LineLevels) (s : State) :
    powerOn tpol l s
      = { s with
          cfe := cfeReset
          cnv := cnvReset s.cnv.store
          seq := seqReset
          sch := schReset .notReady
          trg := trgReset (trgLevels l)
          res := resReset
          mon := monReset
          trp := ⟨.tripped, if l.tripin = .low then 0x003 else 0x001, tripinOf l.tripin, tpol, tpol⟩
          ses := sesReset
          tmb := tmbReset l.sync
          host := ⟨hostAtResetEnd l.selectA, hostAtResetEnd l.selectB⟩
          resetActive := false } := by
  have lines : (tmap (trgReset (lineLevels s.trg)).line fun n r =>
      { r with level := tget (trgLevels l) n }) = (trgReset (trgLevels l)).line :=
    table_ext fun n => by simp [trgReset]
  have both : startupBit ||| causeBit .ext = 0x003 := by decide
  unfold powerOn
  rw [takeLevels_of_tripped l rfl]
  simp only [resetBlocks, latchAtResetBegin]
  rw [lines, both]
  rfl

theorem tget_trgReset_line (levels : Vector Level 4) (n : Fin 4) :
    tget (trgReset levels).line n = ⟨.rising, tget levels n⟩ := tget_ofFn ..

/-- A receiver whose select is active discards the frame that the reset met (R162). -/
theorem hostAtResetEnd_eq (selected : Bool) :
    hostAtResetEnd selected
      = ⟨if selected = true then .discarding else .idle,
        if selected = true then .filler else .undriven, ⟨.resetDone, 0, [0]⟩, 0, 0, false⟩ := by
  cases selected <;> rfl

/-- Settles O10: POWER_ON is one assignment of reset values to the blocks. -/
theorem powerOnState : Obligations.PowerOnState := by
  intro tpol l s
  refine ⟨powerOn tpol l s, rfl, ?_⟩
  rw [powerOn_eq]
  refine ⟨fun c => tget_replicate .., rfl, rfl, fun i => tget_replicate .., rfl,
    fun id => tget_replicate .., rfl, rfl, rfl, fun n => ⟨tget_replicate .., tget_replicate ..⟩,
    ⟨tget_trgReset_line .., tget_trgReset_line .., tget_trgReset_line .., tget_trgReset_line ..⟩,
    fun n => tget_replicate .., fun x => ?queue, fun c => tget_replicate ..,
    fun i => tget_replicate .., ?latch, fun x => ?session, fun r => ?claim, rfl, rfl,
    fun x => ?host, rfl⟩
  case queue => cases x <;> rfl
  case latch => cases l.tripin <;> rfl
  case session => cases x <;> rfl
  case claim => cases r <;> exact tget_replicate ..
  case host => cases x <;> exact hostAtResetEnd_eq _

end Sys2Proof.Machine
end

section
/-! ## The order of a dispatch (R59 to R61) and the start order (R22, R23) -/

namespace Sys2Proof.Machine

/-! ### The start order -/

@[simp] theorem descriptor_channelOf (e : ExtChannel) (s : State) :
    descriptor (channelOf e) s = tget s.cfe e := by
  unfold descriptor channelOf
  rw [dif_pos e.isLt]

/-- The measurement that a start order begins over a descriptor (R22). -/
def Descriptor.latched (d : Descriptor) (x : Port) (k : Option StepRef) (c : Channel)
    (n : SampleCount) : Measurement :=
  ⟨x, k, c, n, d.range, d.mode, d.settle, false, 0, 0, false, false⟩

/-- The IDLE converter takes a start order (R22, R23). -/
theorem converterStart_of_idle (x : Port) (k : Option StepRef) (c : Channel) (n : SampleCount)
    {s : State} (h : s.cnv.state = .idle) :
    converterStart x k c n s = s.setCnv { s.cnv with
      state := if (descriptor c s).settle = 0
        then .sampling ((descriptor c s).latched x k c n) s.tmb.counter
        else .settling ((descriptor c s).latched x k c n)
          (s.tmb.counter + (descriptor c s).settle.setWidth 32) } := by
  unfold converterStart
  rw [h]
  rfl

/-- A start order reads the converter, the descriptors and the counter alone. -/
theorem converterStart_cnv_congr (x : Port) (k : Option StepRef) (c : Channel) (n : SampleCount)
    {s t : State} (hc : t.cnv = s.cnv) (hd : t.cfe = s.cfe) (ht : t.tmb = s.tmb) :
    (converterStart x k c n t).cnv = (converterStart x k c n s).cnv := by
  unfold converterStart descriptor
  rw [hc, hd, ht]
  cases s.cnv.state <;> simp [hc]

/-- The measurement in flight after a start order at the IDLE converter. -/
theorem inFlight_of_started {x : Port} {k : Option StepRef} {c : Channel} {n : SampleCount}
    {s t : State} (h : s.cnv.state = .idle) (ht : t.cnv = (converterStart x k c n s).cnv) :
    inFlight t = some ((descriptor c s).latched x k c n) := by
  unfold inFlight
  rw [ht, converterStart_of_idle x k c n h, State.setCnv_cnv]
  by_cases direct : (descriptor c s).settle = 0
  · rw [if_pos direct]
  · rw [if_neg direct]

/-- The step at a sequence's index starts. -/
theorem startSequenceStep_of_step (cls : WorkClass) {id : SeqId} {s : State} {q : Sequence}
    {st : SeqStep} (hq : sequence id s = some q) (hst : q.steps[q.index]? = some st) :
    startSequenceStep cls id s
      = startMeasurement cls q.owner (.step ⟨id, q.index⟩) (some ⟨id, q.index⟩) st.channel
        st.samples (cls == .background && q.restarts == 3) s := by
  unfold startSequenceStep Sequence.current
  simp only [hq, hst]

/-! ### What a dispatch takes first -/

theorem dispatch_of_activeUrgent {s : State} {p : UrgentPass} (h : s.sch.activeUrgent = some p) :
    dispatch s = startSequenceStep .urgent p.seq s := by
  unfold dispatch
  rw [h]

theorem dispatch_of_urgent {s : State} {e : UrgentEntry} {rest : List UrgentEntry}
    (ha : s.sch.activeUrgent = none) (hu : s.sch.urgent = e :: rest) :
    dispatch s = dispatchUrgentHead e rest s := by
  unfold dispatch
  rw [ha, hu]

theorem dispatch_of_activePrompt {s : State} {p : PromptEntry} (ha : s.sch.activeUrgent = none)
    (hu : s.sch.urgent = []) (h : s.sch.activePrompt = some p) :
    dispatch s = startPromptWork p s := by
  unfold dispatch
  rw [ha, hu, h]

theorem dispatch_of_prompt {s : State} {e : PromptEntry} {rest : List PromptEntry}
    (ha : s.sch.activeUrgent = none) (hu : s.sch.urgent = []) (hp : s.sch.activePrompt = none)
    (h : s.sch.prompt = e :: rest) : dispatch s = dispatchPromptHead e rest s := by
  unfold dispatch
  rw [ha, hu, hp, h]

theorem dispatch_of_no_request {s : State} (ha : s.sch.activeUrgent = none)
    (hu : s.sch.urgent = []) (hp : s.sch.activePrompt = none) (h : s.sch.prompt = []) :
    dispatch s = rotate s := by
  unfold dispatch
  rw [ha, hu, hp, h]

/-! ### What each item starts -/

theorem startPassOf_eq {id : SeqId} {s : State} {q : Sequence} (hq : sequence id s = some q) :
    startPassOf id s = setSequence id (some q.startPass) s := by
  unfold startPassOf updateSequence
  rw [hq]
  rfl

@[simp] theorem sequence_setSequence (id j : SeqId) (v : Option Sequence) (s : State) :
    sequence j (setSequence id v s) = if j = id then v else sequence j s := tget_tset ..

/-- A pass starts at step 0, with the scheduler as given. -/
theorem startPass_then_step (cls : WorkClass) {id : SeqId} {s : State} {q : Sequence}
    {st : SeqStep} (k : Scheduler) (hcls : cls ≠ .background) (hq : sequence id s = some q)
    (hst : q.steps.head? = some st) :
    startSequenceStep cls id (startPassOf id (s.setSch k))
      = startMeasurement cls q.owner (.step ⟨id, 0⟩) (some ⟨id, 0⟩) st.channel st.samples false
        ((setSequence id (some q.startPass) s).setSch k) := by
  have passed : startPassOf id (s.setSch k) = (setSequence id (some q.startPass) s).setSch k :=
    startPassOf_eq (s := s.setSch k) hq
  have entry : sequence id ((setSequence id (some q.startPass) s).setSch k) = some q.startPass :=
    (sequence_setSequence id id _ s).trans (if_pos rfl)
  have first : q.startPass.steps[q.startPass.index]? = some st := by
    rw [← hst, List.head?_eq_getElem?]
    rfl
  have unshielded : (cls == .background) = false := by simpa using hcls
  rw [passed, startSequenceStep_of_step cls entry first, unshielded]
  rfl

/-- The head of the urgent queue becomes the active urgent pass, at step 0 (R59, R60). -/
theorem dispatchUrgentHead_eq {e : UrgentEntry} (rest : List UrgentEntry) {s : State} {q : Sequence}
    {st : SeqStep} (hq : sequence e.seq s = some q) (hst : q.steps.head? = some st) :
    dispatchUrgentHead e rest s
      = startMeasurement .urgent q.owner (.step ⟨e.seq, 0⟩) (some ⟨e.seq, 0⟩) st.channel st.samples
        false ((setSequence e.seq (some q.startPass) s).setSch { s.sch with
          urgent := rest
          activeUrgent := some ⟨e.seq, q.owner, e.arrival, e.deadline, .undecided⟩ }) := by
  unfold dispatchUrgentHead
  rw [hq]
  exact startPass_then_step .urgent _ (by decide) hq hst

/-- The head of the prompt queue becomes the active prompt pass, at its sequence's step 0 (R59,
R60). -/
theorem dispatchPromptHead_sequence {x : Port} {id : SeqId} (rest : List PromptEntry) {s : State}
    {q : Sequence} {st : SeqStep} (hq : sequence id s = some q) (hst : q.steps.head? = some st) :
    dispatchPromptHead ⟨x, .sequence id⟩ rest s
      = startMeasurement .prompt q.owner (.step ⟨id, 0⟩) (some ⟨id, 0⟩) st.channel st.samples false
        ((setSequence id (some q.startPass) s).setSch
          { s.sch with prompt := rest, activePrompt := some ⟨x, .sequence id⟩ }) :=
  startPass_then_step .prompt _ (by decide) hq hst

/-- A CONVERT_NOW request at the head becomes the active prompt pass, and its one measurement starts
(R72). -/
theorem dispatchPromptHead_immediate (x : Port) (c : Channel) (n : SampleCount)
    (rest : List PromptEntry) (s : State) :
    dispatchPromptHead ⟨x, .immediate c n⟩ rest s
      = startMeasurement .prompt x (.immediate c) none c n false
        (s.setSch { s.sch with prompt := rest, activePrompt := some ⟨x, .immediate c n⟩ }) := rfl

theorem rotationPick_of_none_runnable {x : Port} {s : State} (h : ∀ id, runnable x id s = false) :
    rotationPick x s = none := by
  unfold rotationPick
  simp [h]

/-- With nothing runnable the rotation changes nothing (R61). -/
theorem rotate_of_none_runnable {s : State} (h : ∀ x id, runnable x id s = false) :
    rotate s = s := by
  unfold rotate
  rw [rotationPick_of_none_runnable (h _), rotationPick_of_none_runnable (h _)]

/-- Settles O29: by the first item there is, from the active urgent pass to the rotation. -/
theorem dispatchOrder : Obligations.DispatchOrder := by
  refine ⟨?start, ?activeUrgent, ?activePrompt, ?promptSequence, ?urgent, ?promptImmediate, ?none⟩
  case start =>
    rintro cls x item k c n shielded s d m idle rfl rfl
    refine ⟨?_, fun e => descriptor_channelOf e s⟩
    exact converterStart_of_idle x k c n
      (s := s.setSch { s.sch with view := .busy ⟨cls, x, item, shielded, false⟩ }) idle
  case activeUrgent =>
    intro s p q st ha hq hst
    rw [dispatch_of_activeUrgent ha, startSequenceStep_of_step .urgent hq hst]
    rfl
  case activePrompt =>
    intro s x id q st ha hu hp hq hst
    rw [dispatch_of_activePrompt ha hu hp]
    exact startSequenceStep_of_step .prompt hq hst
  case promptSequence =>
    intro s x id rest q st ha hu hp hr hq hst
    rw [dispatch_of_prompt ha hu hp hr]
    exact dispatchPromptHead_sequence rest hq hst
  case urgent =>
    intro s e rest q st ha hu hq hst idle
    have cnv := converterStart_cnv_congr q.owner (some ⟨e.seq, 0⟩) st.channel st.samples (s := s)
      (t := (setSequence e.seq (some q.startPass) s).setSch { s.sch with
        urgent := rest
        activeUrgent := some ⟨e.seq, q.owner, e.arrival, e.deadline, .undecided⟩ }) rfl rfl rfl
    rw [dispatch_of_urgent ha hu, dispatchUrgentHead_eq rest hq hst, startMeasurement_eq,
      startMeasurement_eq, cnv]
    refine ⟨(sequence_setSequence e.seq e.seq _ s).trans (if_pos rfl), rfl, rfl, _,
      inFlight_of_started idle rfl, rfl, rfl, rfl, rfl⟩
  case promptImmediate =>
    intro s x c n rest ha hu hp hr idle
    have cnv := converterStart_cnv_congr x none c n (s := s)
      (t := s.setSch { s.sch with prompt := rest, activePrompt := some ⟨x, .immediate c n⟩ })
      rfl rfl rfl
    rw [dispatch_of_prompt ha hu hp hr, dispatchPromptHead_immediate, startMeasurement_eq,
      startMeasurement_eq, cnv]
    exact ⟨rfl, rfl, rfl, _, inFlight_of_started idle rfl, rfl, rfl, rfl, rfl⟩
  case none =>
    intro s ha hu hp hr none
    rw [dispatch_of_no_request ha hu hp hr, rotate_of_none_runnable none]

end Sys2Proof.Machine
end

section
/-! ## Commands answered and refused, and numbers in argument words -/

namespace Sys2Proof.Machine

open Sys2Proof.Safety

/-- Port `x` takes a frame whose command passes the start-state and session checks (R158). -/
def Admits (x : Port) (c : HostCommand) (s : State) : Prop :=
  takesFrame x s = true ∧ started s = true ∧ passesSession (session x s) c = true

/-- An OPEN session admits every command (R133). -/
theorem admits_of_open {x : Port} {s : State} (c : HostCommand) (ht : takesFrame x s = true)
    (hs : started s = true) (ho : sessionOpen x s = true) : Admits x c s := by
  obtain ⟨l, hl⟩ := session_of_sessionOpen ho
  exact ⟨ht, hs, by rw [hl]; rfl⟩

theorem admits_of_admitted {x : Port} {s : State} (c : HostCommand) (h : admitted x s = true) :
    Admits x c s :=
  admits_of_open c (takesFrame_of_admitted h) (started_of_admitted h) (sessionOpen_of_admitted h)

/-- A command whose own checks refuse it. -/
theorem takeCommand_refuse {x : Port} {c : HostCommand} {s : State} {body : State → Reply}
    {st : Status} (tag : Tag) (h : Admits x c s) (hb : body (endFrame x s) = .refuse st) :
    takeCommand x c tag body s = refused x st tag s := by
  obtain ⟨ht, hs, hp⟩ := h
  rw [takeCommand_of_passes c tag body ht hs hp, hb]
  rfl

/-- A command whose own checks answer it OK. -/
theorem takeCommand_answer {x : Port} {c : HostCommand} {s t : State} {body : State → Reply}
    {payload : List Word} (tag : Tag) (h : Admits x c s)
    (hb : body (endFrame x s) = .answer .ok payload t) :
    takeCommand x c tag body s = answered x c tag payload t := by
  obtain ⟨ht, hs, hp⟩ := h
  rw [takeCommand_of_passes c tag body ht hs hp, hb]
  rfl

theorem numberBelow_of_toNat {n : Nat} {w : Word} {i : Fin n} (h : w.toNat = i.val) :
    numberBelow n w = some i := by
  unfold numberBelow
  rw [dif_pos (h ▸ i.isLt)]
  exact congrArg some (Fin.ext h)

theorem numberBelow_of_le {n : Nat} {w : Word} (h : n ≤ w.toNat) : numberBelow n w = none := by
  unfold numberBelow
  rw [dif_neg (by omega)]

end Sys2Proof.Machine
end


section
/-! ## The reading commands and their payloads (R12, R51, R107, R115) -/

namespace Sys2Proof.Machine

open Sys2Proof.Safety

/-! ### Layouts -/

open BitVec in
/-- The fields of GET_CHANNEL word 1 lie where Table 11-4 puts them. -/
theorem channelLayout_fields (a i m : BitVec 1) (o r : BitVec 2) (c : BitVec 5)
    (w : BitVec (1 + 1 + 2 + 1 + 1 + 2 + 3 + 5))
    (h : w = a ++ i ++ o ++ m ++ (0 : BitVec 1) ++ r ++ (0 : BitVec 3) ++ c) :
    (w.getLsbD 15 = a.getLsbD 0 ∧ w.getLsbD 14 = i.getLsbD 0 ∧ w.getLsbD 10 = false)
      ∧ w.extractLsb' 12 2 = o ∧ w.extractLsb' 11 1 = m ∧ w.extractLsb' 8 2 = r
      ∧ w.extractLsb' 5 3 = 0 ∧ w.extractLsb' 0 5 = c := by
  subst h
  constructor
  · simp only [-Nat.reduceAdd, getLsbD_append, Nat.reduceLT, Nat.reduceSub, if_false, if_true]
    simp
  · simp [-Nat.reduceAdd, extractLsb'_append_eq_of_le, extractLsb'_append_eq_of_add_le]

open BitVec in
/-- The fields of a step word lie where note 1 of Table 11-2 puts them. -/
theorem stepLayout_fields (q : BitVec 1) (n : BitVec 5) (c : BitVec 8)
    (w : BitVec (1 + 2 + 5 + 8)) (h : w = q ++ (0 : BitVec 2) ++ n ++ c) :
    w.getLsbD 15 = q.getLsbD 0 ∧ w.extractLsb' 13 2 = 0 ∧ w.extractLsb' 8 5 = n
      ∧ w.extractLsb' 0 8 = c := by
  subst h
  constructor
  · simp only [-Nat.reduceAdd, getLsbD_append, Nat.reduceLT, Nat.reduceSub, if_false]
  · simp [-Nat.reduceAdd, extractLsb'_append_eq_of_le, extractLsb'_append_eq_of_add_le]

theorem getLsbD_bit (b : Bool) : (bit b).getLsbD 0 = b := by cases b <;> rfl

/-- The owner field (Table 11-2). -/
theorem ownerCode_eq (o : Option Port) :
    ownerCode o = match o with | none => (0 : BitVec 2) | some .A => 1 | some .B => 2 := by
  rcases o with _ | _ | _ <;> rfl

theorem external_isNone (c : Channel) : (external c).isNone = decide (24 ≤ c.val) := by
  unfold external
  split <;> simp <;> omega

/-- GET_CHANNEL word 1, field by field. -/
theorem channelWord_fields (a i : Bool) (c : Channel) (d : Descriptor) (w : Word)
    (h : w = channelWord a i c d) :
    w.getLsbD 15 = a ∧ w.getLsbD 14 = i ∧ w.extractLsb' 12 2 = ownerCode d.owner
      ∧ w.extractLsb' 11 1 = modeCode d.mode ∧ w.extractLsb' 8 2 = rangeCode d.range
      ∧ (w.extractLsb' 0 5).toNat = c.val ∧ w.getLsbD 10 = false ∧ w.extractLsb' 5 3 = 0 := by
  obtain ⟨⟨h15, h14, h10⟩, owner, mode, range, unused, channel⟩ :=
    channelLayout_fields (bit a) (bit i) (modeCode d.mode) (ownerCode d.owner) (rangeCode d.range)
      (BitVec.ofNat 5 c.val) w h
  refine ⟨h15.trans (getLsbD_bit a), h14.trans (getLsbD_bit i), owner, mode, range, ?_, h10, unused⟩
  rw [channel, BitVec.toNat_ofNat]
  exact Nat.mod_eq_of_lt c.isLt

/-- A step word, field by field. -/
theorem stepWord_fields (st : SeqStep) :
    (stepWord st).getLsbD 15 = st.quiet ∧ (stepWord st).extractLsb' 13 2 = 0
      ∧ ((stepWord st).extractLsb' 8 5).toNat = st.samples.toNat
      ∧ ((stepWord st).extractLsb' 0 8).toNat = st.channel.val := by
  obtain ⟨quiet, unused, samples, channel⟩ := stepLayout_fields (bit st.quiet)
    (BitVec.ofNat 5 st.samples.toNat) (BitVec.ofNat 8 st.channel.val) (stepWord st) rfl
  refine ⟨quiet.trans (getLsbD_bit _), unused, ?_, ?_⟩
  · rw [samples]
    cases st.samples <;> rfl
  · rw [channel, BitVec.toNat_ofNat]
    exact Nat.mod_eq_of_lt (by omega)

/-! ### Snapshots -/

theorem length_snapshotWords (c : Channel) (e : SnapshotEntry) : (snapshotWords c e).length = 5 := by
  unfold snapshotWords
  split <;> rfl

/-- The words of an entry (R107, Table 11-7). -/
theorem snapshotWords_eq (c : Channel) (e : SnapshotEntry) :
    snapshotWords c e = match e.held with
      | none => [e.generation.setWidth 16, BitVec.ofNat 16 c.val, 0, 0, 0]
      | some v =>
        [(1 : BitVec 1) ++ (match v.port with | .A => (0 : BitVec 1) | .B => 1)
           ++ (match v.seq with
             | none => (0 : BitVec 5) | some id => (1 : BitVec 1) ++ BitVec.ofNat 4 id.val)
           ++ (0 : BitVec 1) ++ e.generation,
         BitVec.ofBool v.clipped ++ BitVec.ofBool v.untrimmed ++ (0 : BitVec 9)
           ++ BitVec.ofNat 5 c.val,
         v.value, v.stamp.extractLsb' 16 16, v.stamp.extractLsb' 0 16] := by
  unfold snapshotWords
  cases held : e.held with
  | none =>
    have word : (0 : BitVec 8) ++ e.generation = e.generation.setWidth 16 :=
      (BitVec.setWidth_eq_append (by decide)).symm
    rw [word]
    rfl
  | some v =>
    cases v.port <;> cases v.seq <;> rfl

theorem snapshotPayload_succ (s : State) {f : Nat} (m : Nat) (h : f < 32) :
    snapshotPayload s f (m + 1)
      = snapshotWords ⟨f, h⟩ (tget s.res.snapshot ⟨f, h⟩) ++ snapshotPayload s (f + 1) m := by
  rw [snapshotPayload, dif_pos h]

theorem length_snapshotPayload (s : State) (f m : Nat) (h : f + m ≤ 32) :
    (snapshotPayload s f m).length = 5 * m := by
  induction m generalizing f with
  | zero => rfl
  | succ m ih =>
    rw [snapshotPayload_succ s m (by omega), List.length_append, length_snapshotWords,
      ih (f + 1) (by omega)]
    omega

/-- The words of entry `k` of the answer are those of channel `f + k` (R107). -/
theorem snapshotPayload_slice (s : State) {f m k : Nat} {c : Channel} (h : f + m ≤ 32) (hk : k < m)
    (hc : c.val = f + k) :
    ((snapshotPayload s f m).drop (5 * k)).take 5 = snapshotWords c (tget s.res.snapshot c) := by
  induction m generalizing f k with
  | zero => omega
  | succ m ih =>
    rw [snapshotPayload_succ s m (by omega)]
    cases k with
    | zero =>
      have entry : (⟨f, by omega⟩ : Channel) = c := Fin.ext hc.symm
      rw [entry, Nat.mul_zero, List.drop_zero, List.take_left' (length_snapshotWords ..)]
    | succ k =>
      rw [Nat.mul_succ, Nat.add_comm, ← List.drop_drop,
        List.drop_left' (length_snapshotWords ..)]
      exact ih (by omega) (by omega) (by omega)

/-! ### Answers -/

theorem getChannel_answers {x : Port} {w : Word} {s : State} {c : Channel} (tag : Tag)
    (h : Admits x .getChannel s) (hw : w.toNat = c.val) :
    exec (.getChannel x tag [w]) s
      = .next (answered x .getChannel tag (channelPayload c s) (endFrame x s)) := by
  refine congrArg _ (takeCommand_answer tag h ?_)
  unfold getChannelCommand
  simp only [numberBelow_of_toNat hw]
  rfl

theorem getChannel_refuses {x : Port} {w : Word} {s : State} (tag : Tag)
    (h : Admits x .getChannel s) (hw : 31 < w.toNat) :
    exec (.getChannel x tag [w]) s = .next (refused x .badArgument tag s) := by
  refine congrArg _ (takeCommand_refuse tag h ?_)
  unfold getChannelCommand
  simp only [numberBelow_of_le (n := 32) hw]

theorem getSequence_answers {x : Port} {w : Word} {s : State} {id : SeqId} (tag : Tag)
    (h : Admits x .getSequence s) (hw : w.toNat = id.val) :
    exec (.getSequence x tag [w]) s
      = .next (answered x .getSequence tag
          ((sequence id s).elim (freePayload id) fun q =>
            sequencePayload id q (s.seq.stepCount.get q.owner)) (endFrame x s)) := by
  refine congrArg _ (takeCommand_answer tag h ?_)
  unfold getSequenceCommand
  simp only [numberBelow_of_toNat hw, sequence_endFrame]
  cases sequence id s <;> rfl

theorem getSequence_refuses {x : Port} {w : Word} {s : State} (tag : Tag)
    (h : Admits x .getSequence s) (hw : 15 < w.toNat) :
    exec (.getSequence x tag [w]) s = .next (refused x .badArgument tag s) := by
  refine congrArg _ (takeCommand_refuse tag h ?_)
  unfold getSequenceCommand
  simp only [numberBelow_of_le (n := 16) hw]

theorem getMonitor_answers {x : Port} {w : Word} {s : State} {i : MonId} (tag : Tag)
    (h : Admits x .getMonitor s) (hw : w.toNat = i.val) :
    exec (.getMonitor x tag [w]) s
      = .next (answered x .getMonitor tag (monitorPayload i (monitor i s)) (endFrame x s)) := by
  refine congrArg _ (takeCommand_answer tag h ?_)
  unfold getMonitorCommand withMonitor
  simp only [numberBelow_of_toNat hw]
  rfl

theorem getMonitor_refuses {x : Port} {w : Word} {s : State} (tag : Tag)
    (h : Admits x .getMonitor s) (hw : 7 < w.toNat) :
    exec (.getMonitor x tag [w]) s = .next (refused x .badArgument tag s) := by
  refine congrArg _ (takeCommand_refuse tag h ?_)
  unfold getMonitorCommand withMonitor
  simp only [numberBelow_of_le (n := 8) hw]

/-- READ_SNAPSHOT is taken for 1 to 8 entries that lie within the table (R107). -/
theorem readSnapshotCommand_eq (f m : Word) (s : State) :
    readSnapshotCommand [f, m] s
      = if 1 ≤ m.toNat ∧ m.toNat ≤ 8 ∧ f.toNat + m.toNat ≤ 32
        then .answer .ok (snapshotPayload s f.toNat m.toNat) s else .refuse .badArgument := by
  by_cases fits : 1 ≤ m.toNat ∧ m.toNat ≤ 8 ∧ f.toNat + m.toNat ≤ 32
  · rw [if_pos fits]
    exact if_neg (by omega)
  · rw [if_neg fits]
    exact if_pos (by omega)

theorem readSnapshot_answers {x : Port} {f m : Word} {s : State} (tag : Tag)
    (h : Admits x .readSnapshot s)
    (fits : 1 ≤ m.toNat ∧ m.toNat ≤ 8 ∧ f.toNat + m.toNat ≤ 32) :
    exec (.readSnapshot x tag [f, m]) s
      = .next (answered x .readSnapshot tag (snapshotPayload (endFrame x s) f.toNat m.toNat)
          (endFrame x s)) :=
  congrArg _ (takeCommand_answer tag h ((readSnapshotCommand_eq ..).trans (if_pos fits)))

theorem readSnapshot_refuses {x : Port} {f m : Word} {s : State} (tag : Tag)
    (h : Admits x .readSnapshot s)
    (fits : ¬ (1 ≤ m.toNat ∧ m.toNat ≤ 8 ∧ f.toNat + m.toNat ≤ 32)) :
    exec (.readSnapshot x tag [f, m]) s = .next (refused x .badArgument tag s) :=
  congrArg _ (takeCommand_refuse tag h ((readSnapshotCommand_eq ..).trans (if_neg fits)))

/-- A command of the OPEN session alone, in any other (R133). -/
theorem takeCommand_closed {x : Port} {c : HostCommand} {s : State} (tag : Tag)
    (body : State → Reply) (ht : takesFrame x s = true) (hs : started s = true)
    (ho : sessionOpen x s = false) (hc : takenInClosed c = false) (hr : c ≠ .readResults)
    (hf : c ≠ .flush) : takeCommand x c tag body s = refused x .noSession tag s :=
  takeCommand_noSession c tag body ht hs (passesSession_of_not_open ho hc hr hf)

theorem passesSession_readSnapshot (v : Session) : passesSession v .readSnapshot = true := by
  cases v <;> rfl

/-- The descriptors of the internal channels (Table 1-1). -/
theorem descriptor_internal (s : State) :
    descriptor 24 s = ⟨.unipolar2V5, .single, 50, none⟩
      ∧ descriptor 25 s = ⟨.bipolar5V, .single, 10, none⟩
      ∧ descriptor 26 s = ⟨.unipolar10V, .single, 10, none⟩
      ∧ descriptor 27 s = ⟨.unipolar10V, .single, 10, none⟩
      ∧ descriptor 28 s = ⟨.bipolar5V, .single, 10, none⟩
      ∧ descriptor 29 s = ⟨.unipolar2V5, .single, 10, none⟩
      ∧ descriptor 30 s = ⟨.unipolar2V5, .single, 10, none⟩
      ∧ descriptor 31 s = ⟨.bipolar10V, .single, 0, none⟩ :=
  ⟨rfl, rfl, rfl, rfl, rfl, rfl, rfl, rfl⟩

/-- Settles O22: each reading command answers with the payload of the entry it names, in the state
it read. -/
theorem readingCommands : Obligations.ReadingCommands := by
  intro x tag w s taken past
  refine ⟨⟨fun e => descriptor_channelOf e s, descriptor_internal s⟩, fun closed => ⟨?_, ?_, ?_⟩,
    fun opened => ?_, fun m => ⟨fun outside => ?_, fun low high fits => ?_⟩⟩
  · exact congrArg _ (takeCommand_closed tag _ taken past closed rfl (by decide) (by decide))
  · exact congrArg _ (takeCommand_closed tag _ taken past closed rfl (by decide) (by decide))
  · exact congrArg _ (takeCommand_closed tag _ taken past closed rfl (by decide) (by decide))
  · have admits (c : HostCommand) : Admits x c s := admits_of_open c taken past opened
    refine ⟨getChannel_refuses tag (admits _), fun c hc => ?channel,
      getSequence_refuses tag (admits _), fun id hid => ⟨fun hq => ?free, fun q hq => ?sequence⟩,
      stepWord_fields, getMonitor_refuses tag (admits _), fun i hi m hm => ?monitor⟩
    case channel =>
      refine ⟨_, getChannel_answers tag (admits _) hc, ?_⟩
      rw [← external_isNone]
      exact channelWord_fields _ _ c _ _ rfl
    case free =>
      have word : w = numberWord id.val := by
        apply BitVec.eq_of_toNat_eq
        rw [hid, numberWord, BitVec.toNat_ofNat, Nat.mod_eq_of_lt (by omega)]
      rw [getSequence_answers tag (admits _) hid, hq, word]
      rfl
    case sequence =>
      refine ⟨(0 : BitVec 5) ++ seqStateCode q.state ++ (0 : BitVec 4) ++ BitVec.ofNat 4 id.val,
        (0 : BitVec 6) ++ kindCode q.kind ++ (0 : BitVec 6) ++ portCode q.owner, ?_, ?_, ?_⟩
      · rw [getSequence_answers tag (admits _) hid, hq, Option.elim_some, sequencePayload]
        cases q.kind <;> rfl
      · cases q.state <;> rfl
      · cases q.kind <;> cases q.owner <;> rfl
    case monitor =>
      subst hm
      refine ⟨_, _, getMonitor_answers tag (admits _) hi, ?_, rfl⟩
      rw [ownerCode_eq]
      rfl
  · have admits : Admits x .readSnapshot s := ⟨taken, past, passesSession_readSnapshot _⟩
    refine readSnapshot_refuses tag admits fun h => ?_
    obtain ⟨h1, h8, h32⟩ := h
    rcases outside with h | rfl | h | h
    · omega
    · exact absurd h1 (by decide)
    · omega
    · omega
  · have admits : Admits x .readSnapshot s := ⟨taken, past, passesSession_readSnapshot _⟩
    refine ⟨_, readSnapshot_answers tag admits ⟨low, high, fits⟩,
      length_snapshotPayload _ _ _ fits, ?_⟩
    rintro k c e hk hc rfl
    rw [snapshotPayload_slice _ fits hk hc, endFrame_res]
    exact snapshotWords_eq c _

end Sys2Proof.Machine
end

section
/-! ## SET_CHANNEL (R9 to R11) -/

namespace Sys2Proof.Machine

open Sys2Proof.Safety

/-! ### The measurement in flight and its mark -/

/-- A mark sets CFG_CHANGED and nothing else (R11). -/
theorem inFlight_markConfigChanged (p : Channel → Bool) (s : State) :
    inFlight (markConfigChanged p s)
      = (inFlight s).map fun m => if p m.channel then { m with cfgChanged := true } else m := by
  unfold inFlight markConfigChanged
  rw [State.setCnv_cnv]
  cases s.cnv.state <;> rfl

theorem markConfigChanged_cnv (p : Channel → Bool) (s : State) :
    (markConfigChanged p s).cnv = { s.cnv with
      state := match s.cnv.state with
        | .starting => .starting
        | .idle => .idle
        | .settling m t => .settling (if p m.channel then { m with cfgChanged := true } else m) t
        | .sampling m t =>
          .sampling (if p m.channel then { m with cfgChanged := true } else m) t } := by
  unfold markConfigChanged
  cases s.cnv.state <;> rfl

/-! ### Snapshot entries that a write invalidates -/

theorem oddPartner_eq_some {c o : ExtChannel} (h : oddPartner c = some o) :
    c.val % 2 = 0 ∧ o.val = c.val + 1 := by
  unfold oddPartner at h
  split at h
  · next even =>
    cases h
    exact ⟨even.1, rfl⟩
  · cases h

theorem oddPartner_of_odd {c : ExtChannel} (h : c.val % 2 = 1) : oddPartner c = none := by
  unfold oddPartner
  rw [dif_neg (by omega)]

theorem oddPartner_of_even {c : ExtChannel} (h : c.val % 2 = 0) : ∃ o, oddPartner c = some o := by
  unfold oddPartner
  rw [dif_pos ⟨h, by omega⟩]
  exact ⟨_, rfl⟩

theorem eq_channelOf_iff {d : Channel} {c : ExtChannel} : d = channelOf c ↔ d.val = c.val :=
  Fin.ext_iff

theorem tget_invalidateSnapshot (c d : Channel) (s : State) :
    tget (invalidateSnapshot c s).res.snapshot d
      = if d = c then invalidEntry (tget s.res.snapshot d) else tget s.res.snapshot d := by
  refine (tget_tset ..).trans ?_
  split
  · next e => rw [e]
  · rfl

theorem invalidEntry_invalidEntry (e : SnapshotEntry) :
    invalidEntry (invalidEntry e) = invalidEntry e := rfl

/-- A write replaces snapshot entries alone. -/
theorem invalidateForWrite_frame (c : ExtChannel) (before after : Descriptor) (s : State) :
    ∃ v, invalidateForWrite c before after s = s.setRes { s.res with snapshot := v } := by
  unfold invalidateForWrite
  dsimp only
  repeat' split
  all_goals exact ⟨_, rfl⟩

/-- A write invalidates the channel's entry when it changes mode or range, and the partner's when it
forms the pair (R10). -/
theorem tget_invalidateForWrite {c : ExtChannel} {before after : Descriptor} {s : State}
    (paired : after.mode = .diff → c.val % 2 = 0) (d : Channel) :
    tget (invalidateForWrite c before after s).res.snapshot d
      = if (d = channelOf c ∧ (before.mode ≠ after.mode ∨ before.range ≠ after.range))
            ∨ (before.mode = .single ∧ after.mode = .diff ∧ d.val = c.val + 1)
        then invalidEntry (tget s.res.snapshot d) else tget s.res.snapshot d := by
  unfold invalidateForWrite
  cases hb : before.mode with
  | single =>
    cases ha : after.mode with
    | single =>
      by_cases hr : before.range = after.range
      · simp [hr]
      · simp [hr, tget_invalidateSnapshot]
    | diff =>
      obtain ⟨o, ho⟩ := oddPartner_of_even (paired ha)
      have partner : d = channelOf o ↔ d.val = c.val + 1 := by
        rw [eq_channelOf_iff, (oddPartner_eq_some ho).2]
      simp only [ho, tget_invalidateSnapshot, partner]
      by_cases own : d = channelOf c <;> by_cases pair : d.val = c.val + 1 <;>
        simp [own, pair, invalidEntry_invalidEntry]
  | diff =>
    cases ha : after.mode with
    | single => simp [tget_invalidateSnapshot]
    | diff =>
      by_cases hr : before.range = after.range
      · simp [hr]
      · simp [hr, tget_invalidateSnapshot]

/-! ### The write -/

/-- A prompt entry or pass is a CONVERT_NOW request on channel `c` (R9). -/
def PromptEntry.isImmediate (e : PromptEntry) (c : Channel) : Bool :=
  match e.item with
  | .immediate d _ => d == c
  | .sequence _ => false

theorem PromptEntry.isImmediate_iff {e : PromptEntry} {c : Channel} :
    e.isImmediate c = true ↔ ∃ n, e.item = .immediate c n := by
  unfold isImmediate
  cases e.item <;> simp

theorem usedByConvertNow_eq (c : Channel) (s : State) :
    usedByConvertNow c s
      = (s.sch.prompt.any (·.isImmediate c) || s.sch.activePrompt.any (·.isImmediate c)) := rfl

theorem usedByConvertNow_iff {c : Channel} {s : State} : usedByConvertNow c s = true
    ↔ ∃ e n, (e ∈ s.sch.prompt ∨ s.sch.activePrompt = some e) ∧ e.item = .immediate c n := by
  simp only [usedByConvertNow_eq, Bool.or_eq_true, List.any_eq_true, Option.any_eq_true,
    PromptEntry.isImmediate_iff]
  constructor
  · rintro (⟨e, he, n, hn⟩ | ⟨e, he, n, hn⟩)
    · exact ⟨e, n, .inl he, hn⟩
    · exact ⟨e, n, .inr he, hn⟩
  · rintro ⟨e, n, he | he, hn⟩
    · exact .inl ⟨e, he, n, hn⟩
    · exact .inr ⟨e, he, n, hn⟩

/-- The four uses of a partner that stand against a DIFF write (R9). -/
theorem partnerInUse_iff {x : Port} {o : ExtChannel} {s : State} : partnerInUse x o s = true
    ↔ usedBySequences x (channelOf o) s = true ∨ usedByMonitors x (channelOf o) s = true
      ∨ (∃ e n, (e ∈ s.sch.prompt ∨ s.sch.activePrompt = some e)
        ∧ e.item = .immediate (channelOf o) n)
      ∨ ∃ m, inFlight s = some m ∧ m.channel = channelOf o := by
  unfold partnerInUse
  simp only [Bool.or_eq_true, usedByConvertNow_iff, Option.any_eq_true, beq_iff_eq, or_assoc]

theorem settleOf_of_le {w : Word} (h : w.toNat ≤ 1023) : settleOf w = some (w.setWidth 10) :=
  if_pos h

/-- SET_CHANNEL whose four arguments each have a meaning. -/
theorem setChannelCommand_of_defined {x : Port} {c : ExtChannel} {ch rg md st : Word} {range : Range}
    {mode : InputMode} (hc : ch.toNat = c.val) (hr : rangeOf rg = some range)
    (hm : modeOf md = some mode) (hs : st.toNat ≤ 1023) (s : State) :
    setChannelCommand x [ch, rg, md, st] s
      = if modeAllowed c mode then checkedWrite x c range mode (st.setWidth 10) s
        else .refuse .badArgument := by
  unfold setChannelCommand
  simp only [numberBelow_of_toNat hc, hr, hm, settleOf_of_le hs]

/-- The checks of a write to SINGLE on a channel of the sender's (R9). -/
theorem checkedWrite_single {x : Port} {c : ExtChannel} (range : Range) (settle : BitVec 10)
    {s : State} (ho : (tget s.cfe c).owner = some x) :
    checkedWrite x c range .single settle s
      = if absorbedExt c s then .refuse .wrongState
        else .answer .ok [] (writeDescriptor c range .single settle s) := by
  unfold checkedWrite
  exact if_neg (not_not_intro ho)

/-- The checks of a write to DIFF on an even channel of the sender's (R9). -/
theorem checkedWrite_diff {x : Port} {c o : ExtChannel} (range : Range) (settle : BitVec 10)
    {s : State} (ho : (tget s.cfe c).owner = some x) (hp : oddPartner c = some o) :
    checkedWrite x c range .diff settle s
      = if (tget s.cfe o).owner ≠ some x then .refuse .notOwner
        else if absorbedExt c s then .refuse .wrongState
        else if (tget s.cfe c).mode = .single ∧ partnerInUse x o s then .refuse .inUse
        else .answer .ok [] (writeDescriptor c range .diff settle s) := by
  unfold checkedWrite
  rw [if_neg (not_not_intro ho), hp]

/-- A write that every check lets pass (R9). -/
theorem checkedWrite_taken {x : Port} {c : ExtChannel} (range : Range) {mode : InputMode}
    (settle : BitVec 10) {s : State} (ho : (tget s.cfe c).owner = some x)
    (ha : absorbedExt c s = false)
    (hd : mode = .diff → ∃ o, oddPartner c = some o ∧ (tget s.cfe o).owner = some x
      ∧ ((tget s.cfe c).mode = .diff ∨ partnerInUse x o s = false)) :
    checkedWrite x c range mode settle s
      = .answer .ok [] (writeDescriptor c range mode settle s) := by
  cases mode with
  | single => rw [checkedWrite_single range settle ho, ha, if_neg Bool.false_ne_true]
  | diff =>
    obtain ⟨o, hp, hx, free⟩ := hd rfl
    rw [checkedWrite_diff range settle ho hp, if_neg (not_not_intro hx), ha,
      if_neg Bool.false_ne_true, if_neg]
    rintro ⟨single, used⟩
    rcases free with diff | free
    · rw [single] at diff
      cases diff
    · rw [free] at used
      cases used

/-- A write leaves every block but channels, snapshot and converter. -/
theorem writeDescriptor_frame (c : ExtChannel) (range : Range) (mode : InputMode)
    (settle : BitVec 10) (s : State) : ∃ v, writeDescriptor c range mode settle s
      = markConfigChanged (fun d => d == channelOf c)
        ((s.setCfe (tset s.cfe c
          { tget s.cfe c with range := range, mode := mode, settle := settle })).setRes
            { s.res with snapshot := v }) := by
  unfold writeDescriptor
  dsimp only
  obtain ⟨v, hv⟩ := invalidateForWrite_frame c (tget s.cfe c)
    { tget s.cfe c with range := range, mode := mode, settle := settle }
    (s.setCfe (tset s.cfe c { tget s.cfe c with range := range, mode := mode, settle := settle }))
  rw [hv]
  exact ⟨v, rfl⟩

theorem generation_writeDescriptor {c : ExtChannel} (range : Range) {mode : InputMode}
    (settle : BitVec 10) {s : State} (paired : mode = .diff → c.val % 2 = 0) (d : Channel) :
    (tget (writeDescriptor c range mode settle s).res.snapshot d).generation
      = (tget s.res.snapshot d).generation := by
  have entry := tget_invalidateForWrite (before := tget s.cfe c)
    (after := { tget s.cfe c with range := range, mode := mode, settle := settle })
    (s := s.setCfe (tset s.cfe c
      { tget s.cfe c with range := range, mode := mode, settle := settle })) paired d
  refine (congrArg SnapshotEntry.generation entry).trans ?_
  split <;> rfl

/-- The snapshot entries that hold a value after a write (R10). -/
theorem held_writeDescriptor {c : ExtChannel} (range : Range) {mode : InputMode}
    (settle : BitVec 10) {s : State} (paired : mode = .diff → c.val % 2 = 0) (d : Channel) :
    (tget (writeDescriptor c range mode settle s).res.snapshot d).held
      = if (d = channelOf c ∧ ((tget s.cfe c).mode ≠ mode ∨ (tget s.cfe c).range ≠ range))
            ∨ ((tget s.cfe c).mode = .single ∧ mode = .diff ∧ d.val = c.val + 1)
        then none else (tget s.res.snapshot d).held := by
  have entry := tget_invalidateForWrite (before := tget s.cfe c)
    (after := { tget s.cfe c with range := range, mode := mode, settle := settle })
    (s := s.setCfe (tset s.cfe c
      { tget s.cfe c with range := range, mode := mode, settle := settle })) paired d
  exact (congrArg SnapshotEntry.held entry).trans (apply_ite ..)

/-- Settles O20: the checks let the write pass, and the write is read back block by block. -/
theorem setChannel : Obligations.SetChannel := by
  intro x tag c ch rg md st range mode s admitted hc hr hm hs ho ha hd
  have paired (h : mode = .diff) : c.val % 2 = 0 := by
    obtain ⟨o, hp, _⟩ := hd h
    exact (oddPartner_eq_some hp).1
  have allowed : modeAllowed c mode = true := by
    cases mode with
    | single => rfl
    | diff =>
      obtain ⟨o, hp⟩ := oddPartner_of_even (paired rfl)
      simp [modeAllowed, hp]
  have taken : setChannelCommand x [ch, rg, md, st] (endFrame x s)
      = .answer .ok [] (writeDescriptor c range mode (st.setWidth 10) (endFrame x s)) := by
    rw [setChannelCommand_of_defined hc hr hm hs, if_pos allowed]
    refine checkedWrite_taken range _ ho ha fun h => ?_
    obtain ⟨o, hp, hx, free⟩ := hd h
    refine ⟨o, hp, hx, free.imp_right ?_⟩
    rintro ⟨noSequence, noMonitor, noRequest, noMeasurement⟩
    rw [← Bool.not_eq_true, partnerInUse_iff]
    rintro (used | used | ⟨e, n, he, used⟩ | ⟨m, hm, used⟩)
    · exact Bool.false_ne_true (noSequence.symm.trans used)
    · exact Bool.false_ne_true (noMonitor.symm.trans used)
    · exact noRequest e he n used
    · exact noMeasurement m hm used
  obtain ⟨v, hv⟩ := writeDescriptor_frame c range mode (st.setWidth 10) (endFrame x s)
  refine ⟨_, congrArg _ (takeCommand_answer tag (admits_of_admitted _ admitted) taken), ?own,
    fun d other => ?others, generation_writeDescriptor range _ paired,
    held_writeDescriptor range _ paired, ?queue, fun m hm => ?inFlight, ?cnv, ?frame⟩
  case own =>
    rw [hv, ← ho]
    exact tget_tset_same ..
  case others =>
    rw [hv]
    exact tget_tset_ne _ _ other
  case inFlight =>
    have before : inFlight (endFrame x s) = some m := hm
    rw [hv, inFlight_markConfigChanged]
    refine (congrArg (Option.map _) before).trans ?_
    simp
  case cnv =>
    rw [hv, markConfigChanged_cnv]
    simp only [beq_iff_eq]
    rfl
  case queue =>
    rw [hv]
    rfl
  case frame =>
    rw [hv]
    exact ⟨rfl, rfl, rfl, rfl, rfl, rfl, rfl, rfl⟩

end Sys2Proof.Machine
end

section
/-! ## Refusals of SET_CHANNEL and DEFINE_SEQUENCE (R9, R42) -/

namespace Sys2Proof.Machine

open Sys2Proof.Safety

/-! ### Arguments without a meaning -/

theorem rangeOf_of_le {w : Word} (h : 4 ≤ w.toNat) : rangeOf w = none := by
  have differs (v : Word) (hv : v.toNat < 4) : w ≠ v := by
    rintro rfl
    omega
  unfold rangeOf
  rw [if_neg (differs 0 (by decide)), if_neg (differs 1 (by decide)),
    if_neg (differs 2 (by decide)), if_neg (differs 3 (by decide))]

theorem rangeOf_of_lt {w : Word} (h : w.toNat < 4) : ∃ r, rangeOf w = some r := by
  unfold rangeOf
  split
  · exact ⟨_, rfl⟩
  · split
    · exact ⟨_, rfl⟩
    · split
      · exact ⟨_, rfl⟩
      · rw [if_pos (BitVec.eq_of_toNat_eq (by bv_omega))]
        exact ⟨_, rfl⟩

theorem modeOf_of_le {w : Word} (h : 2 ≤ w.toNat) : modeOf w = none := by
  have differs (v : Word) (hv : v.toNat < 2) : w ≠ v := by
    rintro rfl
    omega
  unfold modeOf
  rw [if_neg (differs 0 (by decide)), if_neg (differs 1 (by decide))]

theorem settleOf_of_lt {w : Word} (h : 1023 < w.toNat) : settleOf w = none :=
  if_neg (by omega)

/-- SET_CHANNEL with an argument that has no meaning. -/
theorem setChannelCommand_of_undefined {x : Port} {ch rg md st : Word}
    (h : numberBelow 24 ch = none ∨ rangeOf rg = none ∨ modeOf md = none ∨ settleOf st = none)
    (s : State) : setChannelCommand x [ch, rg, md, st] s = .refuse .badArgument := by
  unfold setChannelCommand
  dsimp only
  split
  · next hc hr hm hs =>
    rcases h with h | h | h | h
    · cases hc.symm.trans h
    · cases hr.symm.trans h
    · cases hm.symm.trans h
    · cases hs.symm.trans h
  · rfl

/-- SET_CHANNEL to DIFF on an odd channel (R9). -/
theorem setChannelCommand_of_odd {x : Port} {ch rg st : Word} (h : ch.toNat % 2 = 1) (s : State) :
    setChannelCommand x [ch, rg, 1, st] s = .refuse .badArgument := by
  unfold setChannelCommand
  dsimp only
  split
  · next c _ mode _ hc _ hm _ =>
    have diff : mode = .diff := by
      cases hm
      rfl
    have odd : oddPartner c = none := by
      unfold numberBelow at hc
      split at hc
      · cases hc
        exact oddPartner_of_odd h
      · cases hc
    rw [diff, modeAllowed, odd]
    rfl
  · rfl

theorem checkedWrite_of_not_owner {x : Port} {c : ExtChannel} (range : Range) (mode : InputMode)
    (settle : BitVec 10) {s : State} (h : (tget s.cfe c).owner ≠ some x) :
    checkedWrite x c range mode settle s = .refuse .notOwner := by
  unfold checkedWrite
  exact if_pos h

/-- Only an odd channel can be absorbed (R7). -/
theorem absorbedExt_of_even {c : ExtChannel} (h : c.val % 2 = 0) (s : State) :
    absorbedExt c s = false := by
  unfold absorbedExt evenPartner
  rw [if_neg (by omega)]

/-! ### Sequences as DEFINE_SEQUENCE names them -/

theorem kindOf_eq_none {k src b : Word} (h : 2 < k.toNat ∨ (k = 0 ∧ 7 < src.toNat)
    ∨ ((k = 1 ∨ k = 2) ∧ (src ≠ 0 ∨ b ≠ 0))) : kindOf k src b = none := by
  unfold kindOf
  rcases h with h | ⟨rfl, h⟩ | ⟨hk, h⟩
  · have differs (v : Word) (hv : v.toNat ≤ 2) : k ≠ v := by
      rintro rfl
      omega
    rw [if_neg (differs 0 (by decide)), if_neg (differs 1 (by decide)),
      if_neg (differs 2 (by decide))]
  · rw [if_pos rfl, numberBelow_of_le (n := 8) h]
    rfl
  · have other : ¬ (src = 0 ∧ b = 0) := by
      rintro ⟨hs, hb⟩
      exact h.elim (· hs) (· hb)
    rcases hk with rfl | rfl
    · rw [if_neg (by decide), if_pos rfl, if_neg other]
    · rw [if_neg (by decide), if_neg (by decide), if_pos rfl, if_neg other]

theorem samplesOf_eq_none {n : Nat} (h : ∀ c : SampleCount, n ≠ c.toNat) : samplesOf n = none := by
  have h1 := h .n1
  have h2 := h .n2
  have h4 := h .n4
  have h8 := h .n8
  have h16 := h .n16
  simp only [SampleCount.toNat] at h1 h2 h4 h8 h16
  simp [samplesOf, h1, h2, h4, h8, h16]

theorem stepOf_eq_none {w : Word} (h : w.extractLsb' 13 2 ≠ 0 ∨ 31 < (w.extractLsb' 0 8).toNat
    ∨ ∀ n : SampleCount, (w.extractLsb' 8 5).toNat ≠ n.toNat) : stepOf w = none := by
  unfold stepOf
  by_cases unused : w.extractLsb' 13 2 ≠ 0
  · rw [if_pos unused]
  · rw [if_neg unused]
    rcases h with h | h | h
    · exact absurd h unused
    · have channel : 32 ≤ ((w.extractLsb' 0 8).setWidth 16).toNat := by
        rw [BitVec.toNat_setWidth_of_le (by decide)]
        exact h
      rw [numberBelow_of_le channel]
    · rw [samplesOf_eq_none h]
      split <;> simp_all

theorem stepsOf_eq_none {ws : List Word} {w : Word} (hw : w ∈ ws) (h : stepOf w = none) :
    stepsOf ws = none := by
  induction ws with
  | nil => cases hw
  | cons v ws ih =>
    unfold stepsOf
    rcases List.mem_cons.mp hw with rfl | hw
    · rw [h]
    · rw [ih hw]
      cases stepOf v <;> rfl

theorem defineCommand_of_undefined {x : Port} {k src b : Word} {ws : List Word}
    (h : ws.length = 0 ∨ 16 < ws.length ∨ kindOf k src b = none ∨ stepsOf ws = none) (s : State) :
    defineCommand x (k :: src :: b :: ws) s = .refuse .badArgument := by
  unfold defineCommand
  dsimp only
  split
  · next count =>
    split
    · next hk hs =>
      rcases h with h | h | h | h
      · omega
      · omega
      · cases hk.symm.trans h
      · cases hs.symm.trans h
    · rfl
  · rfl

theorem defineCommand_of_defined {x : Port} {k src b : Word} {ws : List Word} {kind : SeqKind}
    {steps : List SeqStep} (h1 : 1 ≤ ws.length) (h16 : ws.length ≤ 16)
    (hk : kindOf k src b = some kind) (hs : stepsOf ws = some steps) (s : State) :
    defineCommand x (k :: src :: b :: ws) s = checkedDefine x kind steps s := by
  unfold defineCommand
  simp only [h1, h16, and_self, if_true, hk, hs]

/-! ### The checks of DEFINE_SEQUENCE in their order -/

theorem sourceOwned_eq_false {x : Port} {k : SeqKind} {s : State} : sourceOwned x k s = false
    ↔ ∃ n d, k = .triggered n d ∧ tget s.trg.owner n ≠ some x := by
  cases k with
  | triggered n b => simp [sourceOwned]
  | keyed => simp [sourceOwned]
  | continuous => simp [sourceOwned]

theorem sourceBound_eq_true {k : SeqKind} {s : State} : sourceBound k s = true
    ↔ ∃ n d, k = .triggered n d ∧ tget s.trg.bound n ≠ none := by
  cases k with
  | triggered n b => simp [sourceBound, Option.isSome_iff_ne_none]
  | keyed => simp [sourceBound]
  | continuous => simp [sourceBound]

theorem anyForeign_iff {x : Port} {steps : List SeqStep} {s : State} :
    anyForeign x steps s = true ↔ ∃ st, st ∈ steps ∧ foreignTo x st.channel s = true :=
  List.any_eq_true

theorem anyAbsorbed_iff {steps : List SeqStep} {s : State} :
    anyAbsorbed steps s = true ↔ ∃ st, st ∈ steps ∧ absorbed st.channel s = true :=
  List.any_eq_true

theorem lowestFree_eq_none {s : State} : lowestFree s = none ↔ ∀ id, sequence id s ≠ none := by
  simp [lowestFree, List.find?_eq_none]

theorem noRoom_iff {x : Port} {n : Nat} {s : State} : noRoom x n s = true
    ↔ 12 ≤ sequencesHeld x s ∨ 128 < s.seq.stepTotal + n ∨ 96 < s.seq.stepCount.get x + n := by
  unfold noRoom
  simp only [Bool.or_eq_true, decide_eq_true_eq, or_assoc]
  rfl

/-- The table, or the room in it, is used up for port `x` (R42). -/
def definitionFull (x : Port) (n : Nat) (s : State) : Bool :=
  (lowestFree s).isNone || noRoom x n s

theorem definitionFull_iff {x : Port} {n : Nat} {s : State} : definitionFull x n s = true
    ↔ (∀ id, sequence id s ≠ none) ∨ 12 ≤ sequencesHeld x s
      ∨ 128 < s.seq.stepTotal + n ∨ 96 < s.seq.stepCount.get x + n := by
  rw [definitionFull, Bool.or_eq_true, Option.isNone_iff_eq_none, lowestFree_eq_none, noRoom_iff]

/-- The first check that fails decides the refusal of a definition (R42). -/
theorem checkedDefine_refusals (x : Port) (k : SeqKind) (steps : List SeqStep) (s : State) :
    (sourceOwned x k s = false → checkedDefine x k steps s = .refuse .notOwner)
      ∧ (sourceOwned x k s = true → anyForeign x steps s = true →
        checkedDefine x k steps s = .refuse .foreign)
      ∧ (sourceOwned x k s = true → anyForeign x steps s = false →
        definitionFull x steps.length s = true → checkedDefine x k steps s = .refuse .full)
      ∧ (sourceOwned x k s = true → anyForeign x steps s = false →
        definitionFull x steps.length s = false → anyAbsorbed steps s = true →
          checkedDefine x k steps s = .refuse .wrongState)
      ∧ (sourceOwned x k s = true → anyForeign x steps s = false →
        definitionFull x steps.length s = false → anyAbsorbed steps s = false →
          sourceBound k s = true → checkedDefine x k steps s = .refuse .inUse) := by
  unfold checkedDefine definitionFull
  cases lowestFree s with
  | none => simp +contextual
  | some id => simp +contextual

/-- Settles O21: the first check that fails decides each refusal. -/
theorem channelAndSequenceRefusals : Obligations.ChannelAndSequenceRefusals := by
  refine ⟨fun x tag ch rg md st s admitted => ⟨fun undefined => ?_, fun hr hs c hc => ?_⟩,
    fun x tag k src b ws s admitted undefined => ?_,
    fun x tag k src b ws kind steps s admitted h1 h16 hk hs noSource foreign full hn hf hu => ?_⟩
  · refine congrArg _ (takeCommand_refuse tag (admits_of_admitted _ admitted) ?_)
    rcases undefined with h | h | h | h | ⟨rfl, h⟩
    · exact setChannelCommand_of_undefined (.inl (numberBelow_of_le h)) _
    · exact setChannelCommand_of_undefined (.inr (.inl (rangeOf_of_le h))) _
    · exact setChannelCommand_of_undefined (.inr (.inr (.inl (modeOf_of_le h)))) _
    · exact setChannelCommand_of_undefined (.inr (.inr (.inr (settleOf_of_lt h)))) _
    · exact setChannelCommand_of_odd h _
  · obtain ⟨range, hrange⟩ := rangeOf_of_lt hr
    have refuses {mode : InputMode} {status : Status} (hm : modeOf md = some mode)
        (allowed : modeAllowed c mode = true)
        (h : checkedWrite x c range mode (st.setWidth 10) (endFrame x s) = .refuse status) :
        exec (.setChannel x tag [ch, rg, md, st]) s = .next (refused x status tag s) := by
      refine congrArg _ (takeCommand_refuse tag (admits_of_admitted _ admitted) ?_)
      rw [setChannelCommand_of_defined hc hrange hm hs, if_pos allowed, h]
    refine ⟨fun mode notOwner => ?_, fun owner => ⟨fun single absorbed => ?_,
      fun o diff partner => ⟨fun notOwner => ?_, fun both formed used => ?_⟩⟩⟩
    · rcases mode with rfl | ⟨rfl, even⟩
      · exact refuses (mode := .single) rfl rfl (checkedWrite_of_not_owner _ _ _ notOwner)
      · obtain ⟨o, ho⟩ := oddPartner_of_even even
        exact refuses (mode := .diff) rfl (by simp [modeAllowed, ho])
          (checkedWrite_of_not_owner _ _ _ notOwner)
    · subst single
      refine refuses (mode := .single) rfl rfl ?_
      exact (checkedWrite_single _ _ (s := endFrame x s) owner).trans (if_pos absorbed)
    · subst diff
      refine refuses (mode := .diff) rfl (by simp [modeAllowed, partner]) ?_
      exact (checkedWrite_diff _ _ (s := endFrame x s) owner partner).trans (if_pos notOwner)
    · subst diff
      refine refuses (mode := .diff) rfl (by simp [modeAllowed, partner]) ?_
      have free := absorbedExt_of_even (oddPartner_eq_some partner).1 (endFrame x s)
      rw [checkedWrite_diff _ _ (s := endFrame x s) owner partner, free]
      exact ((if_neg (not_not_intro both)).trans (if_neg Bool.false_ne_true)).trans
        (if_pos ⟨formed, partnerInUse_iff.mpr used⟩)
  · refine congrArg _ (takeCommand_refuse tag (admits_of_admitted _ admitted) ?_)
    refine defineCommand_of_undefined ?_ _
    rcases undefined with h | h | h | h | h | ⟨w, hw, h⟩
    · exact .inr (.inr (.inl (kindOf_eq_none (.inl h))))
    · exact .inl h
    · exact .inr (.inl h)
    · exact .inr (.inr (.inl (kindOf_eq_none (.inr (.inl h)))))
    · exact .inr (.inr (.inl (kindOf_eq_none (.inr (.inr h)))))
    · exact .inr (.inr (.inr (stepsOf_eq_none hw (stepOf_eq_none h))))
  · have refuses {status : Status}
        (h : checkedDefine x kind steps (endFrame x s) = .refuse status) :
        exec (.defineSequence x tag (k :: src :: b :: ws)) s = .next (refused x status tag s) :=
      congrArg _ (takeCommand_refuse tag (admits_of_admitted _ admitted)
        ((defineCommand_of_defined h1 h16 hk hs _).trans h))
    have owns (h : ¬ noSource) : sourceOwned x kind (endFrame x s) = true := by
      rw [← Bool.not_eq_false]
      exact fun e => h (hn.mpr (sourceOwned_eq_false.mp e))
    have noneForeign (h : ¬ foreign) : anyForeign x steps (endFrame x s) = false := by
      rw [← Bool.not_eq_true]
      exact fun e => h (hf.mpr (anyForeign_iff.mp e))
    have hasRoom (h : ¬ full) : definitionFull x steps.length (endFrame x s) = false := by
      rw [← Bool.not_eq_true]
      exact fun e => h (hu.mpr (definitionFull_iff.mp e))
    obtain ⟨refusesOwner, refusesForeign, refusesFull, refusesAbsorbed, refusesBound⟩ :=
      checkedDefine_refusals x kind steps (endFrame x s)
    refine ⟨fun h => refuses (refusesOwner (sourceOwned_eq_false.mpr (hn.mp h))),
      fun h h' => refuses (refusesForeign (owns h) (anyForeign_iff.mpr (hf.mp h'))),
      fun h hf' h' => refuses
        (refusesFull (owns h) (noneForeign hf') (definitionFull_iff.mpr (hu.mp h'))),
      fun h hf' hu' h' => refuses (refusesAbsorbed (owns h) (noneForeign hf') (hasRoom hu')
        (anyAbsorbed_iff.mpr h')),
      fun h hf' hu' ha h' => refuses (refusesBound (owns h) (noneForeign hf') (hasRoom hu') ?_
        (sourceBound_eq_true.mpr h'))⟩
    rw [← Bool.not_eq_true, anyAbsorbed_iff]
    rintro ⟨st, hst, absorbs⟩
    exact Bool.false_ne_true ((ha st hst).symm.trans absorbs)

end Sys2Proof.Machine
end

section
/-! ## What a dispatch leaves to a port that has no work -/

namespace Sys2Proof.Machine

open Sys2Proof.Safety

/-- No sequence, request, pass, turn or measurement of port `x` is left (R75). -/
structure Workless (x : Port) (s : State) : Prop where
  sequence (id : SeqId) (q : Sequence) : sequence id s = some q → q.owner ≠ x
  prompt (e : PromptEntry) : e ∈ s.sch.prompt → e.port ≠ x
  activeUrgent (p : UrgentPass) : s.sch.activeUrgent = some p → p.owner ≠ x
  activePrompt (p : PromptEntry) : s.sch.activePrompt = some p → p.port ≠ x
  lastServed : s.sch.lastServed.get x = 15
  inFlight (m : Measurement) : inFlight s = some m → m.port ≠ x

/-- From `s`, where port `x` has no work, `t` came by work of the other port: requests left the
queues, sequences kept what they were made with, and still nothing is of `x`. -/
structure ServedOther (x : Port) (s t : State) : Prop where
  workless : Workless x t
  made : MadeAlike s t
  counts : t.seq.stepTotal = s.seq.stepTotal ∧ t.seq.stepCount = s.seq.stepCount
  urgent : t.sch.urgent ⊆ s.sch.urgent
  prompt : t.sch.prompt ⊆ s.sch.prompt

namespace ServedOther

variable {x : Port} {s t u : State}

theorem refl (h : Workless x s) : ServedOther x s s :=
  ⟨h, fun _ => rfl, ⟨rfl, rfl⟩, List.Subset.refl _, List.Subset.refl _⟩

theorem trans (h : ServedOther x s t) (k : ServedOther x t u) : ServedOther x s u where
  workless := k.workless
  made id := (k.made id).trans (h.made id)
  counts := ⟨k.counts.1.trans h.counts.1, k.counts.2.trans h.counts.2⟩
  urgent := List.Subset.trans k.urgent h.urgent
  prompt := List.Subset.trans k.prompt h.prompt

/-- The scheduler takes from its queues, and what it makes active is of the other port. -/
theorem ofSch {k : Scheduler} (h : Workless x s) (hu : k.urgent ⊆ s.sch.urgent)
    (hp : k.prompt ⊆ s.sch.prompt) (au : ∀ p, k.activeUrgent = some p → p.owner ≠ x)
    (ap : ∀ p, k.activePrompt = some p → p.port ≠ x) (hl : k.lastServed.get x = 15) :
    ServedOther x s (s.setSch k) :=
  ⟨⟨h.sequence, fun e m => h.prompt e (hp m), au, ap, hl, h.inFlight⟩, fun _ => rfl, ⟨rfl, rfl⟩,
    hu, hp⟩

end ServedOther

theorem inFlight_startMeasurement {cls : WorkClass} {y : Port} {i : WorkItem} {k : Option StepRef}
    {c : Channel} {n : SampleCount} {b : Bool} {s : State} {m : Measurement}
    (h : inFlight (startMeasurement cls y i k c n b s) = some m) :
    inFlight s = some m ∨ m.port = y := by
  have cnv : (startMeasurement cls y i k c n b s).cnv = (converterStart y k c n s).cnv := by
    rw [startMeasurement_eq]
    rfl
  by_cases idle : s.cnv.state = .idle
  · rw [inFlight_of_started idle cnv] at h
    cases h
    exact .inr rfl
  · have same : converterStart y k c n s = s := by
      unfold converterStart
      split
      · next e => exact absurd e idle
      all_goals rfl
    rw [same] at cnv
    rw [inFlight_congr (congrArg Converter.state cnv)] at h
    exact .inl h

section

variable {x : Port} {s : State}

theorem startMeasurement_servesOther {y : Port} (cls : WorkClass) (i : WorkItem)
    (k : Option StepRef) (c : Channel) (n : SampleCount) (b : Bool) (h : Workless x s)
    (hy : y ≠ x) : ServedOther x s (startMeasurement cls y i k c n b s) := by
  have started (m : Measurement) (hm : inFlight (startMeasurement cls y i k c n b s) = some m) :
      m.port ≠ x := by
    rcases inFlight_startMeasurement hm with old | new
    · exact h.inFlight m old
    · exact new ▸ hy
  rw [startMeasurement_eq] at started ⊢
  exact ⟨⟨h.sequence, h.prompt, h.activeUrgent, h.activePrompt, h.lastServed, started⟩,
    fun _ => rfl, ⟨rfl, rfl⟩, List.Subset.refl _, List.Subset.refl _⟩

theorem startSequenceStep_servesOther (cls : WorkClass) (id : SeqId) (h : Workless x s) :
    ServedOther x s (startSequenceStep cls id s) := by
  unfold startSequenceStep
  split
  · exact .refl h
  · next q hq =>
    split
    · exact .refl h
    · exact startMeasurement_servesOther _ _ _ _ _ _ h (h.sequence id q hq)

theorem startPromptWork_servesOther {p : PromptEntry} (h : Workless x s) (hp : p.port ≠ x) :
    ServedOther x s (startPromptWork p s) := by
  unfold startPromptWork
  split
  · exact startSequenceStep_servesOther _ _ h
  · exact startMeasurement_servesOther _ _ _ _ _ _ h hp

theorem startPassOf_servesOther (id : SeqId) (h : Workless x s) :
    ServedOther x s (startPassOf id s) := by
  have made : MadeAlike s (startPassOf id s) :=
    madeAlike_rewritten (r := some ⟨id, 0⟩) (f := fun _ => Sequence.startPass) rfl fun _ _ => rfl
  refine ⟨⟨fun j q hq => ?_, h.prompt, h.activeUrgent, h.activePrompt, h.lastServed, h.inFlight⟩,
    made, ⟨rfl, rfl⟩, List.Subset.refl _, List.Subset.refl _⟩
  obtain ⟨q0, hq0, e⟩ := made.origin hq
  rw [← (Sequence.make_eq e).1]
  exact h.sequence j q0 hq0

theorem startPromptPass_servesOther (p : PromptEntry) (h : Workless x s) :
    ServedOther x s (startPromptPass p s) := by
  unfold startPromptPass
  split
  · exact startPassOf_servesOther _ h
  · exact .refl h

theorem dispatchUrgentHead_servesOther {e : UrgentEntry} {rest : List UrgentEntry}
    (h : Workless x s) (hu : s.sch.urgent = e :: rest) :
    ServedOther x s (dispatchUrgentHead e rest s) := by
  have fewer : rest ⊆ s.sch.urgent := hu ▸ List.subset_cons_self e rest
  unfold dispatchUrgentHead
  split
  · exact .ofSch h fewer (List.Subset.refl _) h.activeUrgent h.activePrompt h.lastServed
  · next q hq =>
    have popped : ServedOther x s (s.setSch { s.sch with
        urgent := rest
        activeUrgent := some ⟨e.seq, q.owner, e.arrival, e.deadline, .undecided⟩ }) := by
      refine .ofSch h fewer (List.Subset.refl _) (fun p hp => ?_) h.activePrompt h.lastServed
      cases hp
      exact h.sequence e.seq q hq
    have passed := popped.trans (startPassOf_servesOther e.seq popped.workless)
    exact passed.trans (startSequenceStep_servesOther .urgent e.seq passed.workless)

theorem dispatchPromptHead_servesOther {e : PromptEntry} {rest : List PromptEntry}
    (h : Workless x s) (hp : s.sch.prompt = e :: rest) :
    ServedOther x s (dispatchPromptHead e rest s) := by
  have fewer : rest ⊆ s.sch.prompt := hp ▸ List.subset_cons_self e rest
  have other : e.port ≠ x := h.prompt e (by simp [hp])
  have popped : ServedOther x s
      (s.setSch { s.sch with prompt := rest, activePrompt := some e }) := by
    refine .ofSch h (List.Subset.refl _) fewer h.activeUrgent (fun p hp => ?_) h.lastServed
    cases hp
    exact other
  have passed := popped.trans (startPromptPass_servesOther e popped.workless)
  exact passed.trans (startPromptWork_servesOther passed.workless other)

theorem owner_of_runnable {y : Port} {id : SeqId} (h : runnable y id s = true) :
    ∃ q, sequence id s = some q ∧ q.owner = y := by
  unfold runnable at h
  split at h
  · cases h
  · next q hq =>
    simp only [Bool.and_eq_true, beq_iff_eq] at h
    exact ⟨q, hq, h.1.1⟩

theorem serveBackground_servesOther {y : Port} {id : SeqId} (h : Workless x s)
    (hr : rotationPick y s = some id) : ServedOther x s (serveBackground y id s) := by
  obtain ⟨q, hq, own⟩ := owner_of_runnable (runnable_of_rotationPick hr)
  have other : x ≠ y := fun e => h.sequence id q hq (own.trans e.symm)
  have turned : ServedOther x s (s.setSch { s.sch with
      lastServed := s.sch.lastServed.set y id, nextPort := otherPort y }) :=
    .ofSch h (List.Subset.refl _) (List.Subset.refl _) h.activeUrgent h.activePrompt
      ((PerPort.get_set_ne _ _ other).trans h.lastServed)
  exact turned.trans (startSequenceStep_servesOther .background id turned.workless)

theorem rotate_servesOther (h : Workless x s) : ServedOther x s (rotate s) := by
  unfold rotate
  split
  · next hr => exact serveBackground_servesOther h hr
  · split
    · next hr => exact serveBackground_servesOther h hr
    · exact .refl h

/-- A dispatch starts nothing for a port that has no work. -/
theorem dispatch_servesOther (h : Workless x s) : ServedOther x s (dispatch s) := by
  unfold dispatch
  split
  · exact startSequenceStep_servesOther _ _ h
  · split
    · next hu => exact dispatchUrgentHead_servesOther h hu
    · split
      · next p hp => exact startPromptWork_servesOther h (h.activePrompt p hp)
      · split
        · next hp => exact dispatchPromptHead_servesOther h hp
        · exact rotate_servesOther h

end

end Sys2Proof.Machine
end

section
/-! ## What a teardown leaves, block by block (R138) -/

namespace Sys2Proof.Machine

open Sys2Proof.Safety

/-! ### The result unit's share (R108, R95) -/

/-- A queue after an append: the record below 64, the gap counter at 64 (R95). -/
def ResultQueue.append (q : ResultQueue) (mk : Nat → Record) : ResultQueue :=
  if q.records.length < Config.queueCapacity then
    { q with records := q.records ++ [mk q.gap], gap := 0 }
  else { q with gap := min 255 (q.gap + 1) }

/-- The flag that an append sets: RESULTS at the watermark, GAP at 64 (R95). -/
def ResultQueue.appendFlag (q : ResultQueue) : Option Flag :=
  if q.records.length < Config.queueCapacity then
    if q.records.length + 1 = q.watermark then some .results else none
  else some .gap

theorem appendRecord_eq (x : Port) (mk : Nat → Record) (s : State) :
    appendRecord x mk s = (resultQueue x s).appendFlag.elim
      (setQueue x ((resultQueue x s).append mk) s)
      fun f => raiseFlag x f (setQueue x ((resultQueue x s).append mk) s) := by
  unfold appendRecord ResultQueue.append ResultQueue.appendFlag
  by_cases room : (resultQueue x s).records.length < Config.queueCapacity
  · simp only [if_pos room]
    split <;> rfl
  · simp only [if_neg room]
    rfl

theorem raiseFlag_host_congr {x : Port} {f : Flag} {s u : State} (h : u.host = s.host) :
    (raiseFlag x f u).host = (raiseFlag x f s).host := by
  unfold raiseFlag setFlagsMask setHostPort hostPort
  rw [State.setHost_host, State.setHost_host, h]

/-- An append writes the queues and the ports, and reads nothing else. -/
theorem appendRecord_congr (x : Port) (mk : Nat → Record) {s u : State}
    (hq : u.res.queue = s.res.queue) (hh : u.host = s.host) :
    appendRecord x mk u
      = (u.setRes { u.res with queue := (appendRecord x mk s).res.queue }).setHost
        (appendRecord x mk s).host := by
  have same : resultQueue x u = resultQueue x s := congrArg (PerPort.get · x) hq
  have queued (q : ResultQueue) :
      setQueue x q u = u.setRes { u.res with queue := (setQueue x q s).res.queue } := by
    unfold setQueue
    rw [hq]
    rfl
  rw [appendRecord_eq, appendRecord_eq, same]
  cases (resultQueue x s).appendFlag with
  | none =>
    change setQueue x _ u = State.setHost _ s.host
    rw [queued, ← hh]
    rfl
  | some f =>
    have host := raiseFlag_host_congr (x := x) (f := f)
      (u := setQueue x ((resultQueue x s).append mk) u)
      (s := setQueue x ((resultQueue x s).append mk) s) hh
    refine Eq.trans (b := (setQueue x ((resultQueue x s).append mk) u).setHost
      (raiseFlag x f (setQueue x ((resultQueue x s).append mk) u)).host) rfl ?_
    rw [host, queued]
    rfl

/-- The result unit's share writes the queues and the ports, and reads nothing else. -/
theorem teardownRes_congr (x : Port) (e : SessionEnd) {s u : State}
    (hq : u.res.queue = s.res.queue) (hh : u.host = s.host) :
    teardownRes x e u
      = (u.setRes { u.res with queue := (teardownRes x e s).res.queue }).setHost
        (teardownRes x e s).host := by
  cases e with
  | close =>
    change setQueue x queueReset u
      = (u.setRes { u.res with queue := s.res.queue.set x queueReset }).setHost s.host
    rw [← hq, ← hh]
    rfl
  | lapse t => exact appendRecord_congr x _ hq hh

/-! ### All shares together -/

theorem setSession_self (x : Port) (s : State) : setSession x (session x s) s = s := by
  unfold setSession session
  rw [PerPort.set_get]
  rfl

/-- Every share of the teardown but those of timebase, result unit and consent state. -/
def withdrawn (x : Port) (s : State) : State :=
  teardownClaims x (teardownMon x (teardownTrg x (tornChannels x (teardownSeq x (teardownSch x
    (unsettled x s))))))

/-- Every share of the teardown, the measurement in flight still there. -/
def shared (x : Port) (e : SessionEnd) (s : State) : State :=
  teardownConsent x (teardownRes x e (teardownTmb x (withdrawn x s)))

theorem teardown_eq (x : Port) (e : SessionEnd) (s : State) :
    teardown x e s = abandonWhere (fun m => m.port == x) (shared x e s) := by
  have channels := teardownCfe_eq x (session x s) s
  rw [setSession_self, show session x s = session x (unsettled x s) from rfl,
    setSession_self] at channels
  unfold teardown
  dsimp only
  rw [channels]
  rfl

theorem tornDown_eq (x : Port) (s : State) :
    tornDown x (session x s) (unsettled x s) = relieved (fun m => m.port == x) (withdrawn x s) := by
  have same : setSession x (session x s) (unsettled x s) = unsettled x s := setSession_self x _
  unfold tornDown
  rw [same]
  rfl

theorem withdrawn_host (x : Port) (s : State) : (withdrawn x s).host = s.host := by
  simp [withdrawn, teardownClaims, setClaims, teardownMon, teardownTrg, tornChannels, teardownSeq,
    teardownSch, unsettled, markConfigChanged]

theorem unsettled_queue (x : Port) (s : State) : (unsettled x s).res.queue = s.res.queue := by
  simp [unsettled]

theorem shared_eq (x : Port) (e : SessionEnd) (s : State) :
    shared x e s = teardownConsent x (((teardownTmb x (withdrawn x s)).setRes
      { (withdrawn x s).res with queue := (teardownRes x e s).res.queue }).setHost
        (teardownRes x e s).host) := by
  unfold shared
  rw [teardownRes_congr x e (s := s) (u := teardownTmb x (withdrawn x s))
    (unsettled_queue x s) (withdrawn_host x s)]
  rfl

/-- The shares that the laws speak of, with the measurement in flight abandoned. -/
theorem withdrawn_shares (x : Port) (s : State) : TornDown x (session x s) (unsettled x s)
    (relieved (fun m => m.port == x) (withdrawn x s)) :=
  tornDown_eq x s ▸ tornDown_shares x (session x s) (unsettled x s)

/-- What a teardown leaves before the dispatch that an abandoned measurement brings. -/
def tornState (x : Port) (e : SessionEnd) (s : State) : State :=
  relieved (fun m => m.port == x) (shared x e s)

/-- The converter, the sequences and the scheduler of that state. -/
theorem tornState_work (x : Port) (e : SessionEnd) (s : State) :
    (tornState x e s).cnv = (relieved (fun m => m.port == x) (withdrawn x s)).cnv
      ∧ (tornState x e s).seq = (relieved (fun m => m.port == x) (withdrawn x s)).seq
      ∧ (tornState x e s).sch = (relieved (fun m => m.port == x) (withdrawn x s)).sch := by
  unfold tornState
  rw [shared_eq]
  exact ⟨rfl, rfl, rfl⟩

theorem unsettled_cnv (x : Port) (s : State) :
    (unsettled x s).cnv = (markConfigChanged (fun c => claimsChannel x c s) s).cnv := by
  unfold unsettled
  rw [State.setRes_cnv]

theorem inFlight_unsettled (x : Port) (s : State) : inFlight (unsettled x s)
    = (inFlight s).map fun m =>
        if claimsChannel x m.channel s then { m with cfgChanged := true } else m := by
  rw [inFlight_congr (congrArg Converter.state (unsettled_cnv x s)), inFlight_markConfigChanged]

theorem inFlight_shared (x : Port) (e : SessionEnd) (s : State) :
    inFlight (shared x e s) = inFlight (unsettled x s) := by
  rw [shared_eq]
  refine inFlight_congr ?_
  simp [teardownConsent, setConsent, teardownTmb, withdrawn, teardownClaims, setClaims, teardownMon,
    teardownTrg, tornChannels, teardownSeq, teardownSch]

/-- The mark changes nothing of whose the measurement is. -/
theorem any_port_unsettled (x : Port) (s : State) :
    (inFlight (unsettled x s)).any (fun m => m.port == x)
      = (inFlight s).any fun m => m.port == x := by
  rw [inFlight_unsettled, Option.any_map]
  have port (m : Measurement) : ((if claimsChannel x m.channel s = true
      then { m with cfgChanged := true } else m).port == x) = (m.port == x) := by split <;> rfl
  exact congrArg (fun p => (inFlight s).any p) (funext port)

theorem teardown_cases (x : Port) (e : SessionEnd) (s : State) :
    ((inFlight s).any (fun m => m.port == x) = true
        ∧ teardown x e s = dispatch (tornState x e s))
      ∨ ((inFlight s).any (fun m => m.port == x) = false
        ∧ teardown x e s = tornState x e s) := by
  rw [teardown_eq, abandonWhere_eq, inFlight_shared, any_port_unsettled]
  split
  · next own => exact .inl ⟨own, rfl⟩
  · next other => exact .inr ⟨by simpa using other, rfl⟩

/-- Nothing of the port is left to do. -/
theorem tornState_workless (x : Port) (e : SessionEnd) (s : State) :
    Workless x (tornState x e s) := by
  have w := withdrawn_shares x s
  obtain ⟨cnv, seq, sch⟩ := tornState_work x e s
  have entry (id : SeqId) : sequence id (tornState x e s)
      = sequence id (relieved (fun m => m.port == x) (withdrawn x s)) := by
    unfold sequence
    rw [seq]
  refine ⟨fun id q h => ?_, fun p h => ?_, fun p h => ?_, fun p h => ?_, ?_, fun m h => ?_⟩
  · rw [entry, w.sequence, Option.filter_eq_some_iff] at h
    simpa using h.2
  · rw [sch, w.prompt, List.mem_filter] at h
    simpa using h.2
  · rw [sch, w.activeUrgent, Option.filter_eq_some_iff] at h
    simpa using h.2
  · rw [sch, w.activePrompt, Option.filter_eq_some_iff] at h
    simpa using h.2
  · rw [sch]
    exact PerPort.get_set_same ..
  · rw [inFlight_congr (congrArg Converter.state cnv)] at h
    rcases relieved_cases w.view w.cnv with ⟨_, idle⟩ | ⟨_, state, others⟩
    · rw [inFlight_of_idle idle] at h
      cases h
    · rw [inFlight_congr state] at h
      simpa using others m h

theorem teardown_servesOther (x : Port) (e : SessionEnd) (s : State) :
    ServedOther x (tornState x e s) (teardown x e s) := by
  rcases teardown_cases x e s with ⟨_, h⟩ | ⟨_, h⟩ <;> rw [h]
  · exact dispatch_servesOther (tornState_workless x e s)
  · exact .refl (tornState_workless x e s)

/-- A teardown in the blocks that no dispatch reaches. -/
theorem teardown_frame (x : Port) (e : SessionEnd) (s : State) : ∃ c u k,
    teardown x e s = worked c u k (teardownConsent x (((teardownTmb x (withdrawn x s)).setRes
      { (withdrawn x s).res with queue := (teardownRes x e s).res.queue }).setHost
        (teardownRes x e s).host)) := by
  rw [teardown_eq, shared_eq]
  exact abandonWhere_touches ..

/-! ### Reading a teardown back -/

/-- The blocks that the shares before the result unit's leave as they are. -/
theorem withdrawn_kept (x : Port) (s : State) : (withdrawn x s).tmb = s.tmb
    ∧ (withdrawn x s).trp = s.trp ∧ (withdrawn x s).ses.session = s.ses.session
    ∧ (withdrawn x s).ses.consent = s.ses.consent := by
  simp [withdrawn, teardownClaims, setClaims, teardownMon, teardownTrg, tornChannels, teardownSeq,
    teardownSch, unsettled, markConfigChanged]

/-- The blocks of a teardown that no dispatch reaches. -/
structure TeardownBlocks (x : Port) (e : SessionEnd) (s t : State) : Prop where
  cfe : t.cfe = (withdrawn x s).cfe
  trg : t.trg = (withdrawn x s).trg
  mon : t.mon = (withdrawn x s).mon
  trp : t.trp = s.trp
  tmb : t.tmb = { s.tmb with
    check := s.tmb.check.map fun k => { k with marks := k.marks.set x false } }
  claims : t.ses.claims = (withdrawn x s).ses.claims
  session : t.ses.session = s.ses.session
  consent : t.ses.consent = s.ses.consent.filter fun c => !(c.asker == x && c.askedOpen)
  snapshot : t.res.snapshot = (withdrawn x s).res.snapshot
  queue : t.res.queue = (teardownRes x e s).res.queue
  host : t.host = (teardownRes x e s).host

theorem teardown_blocks (x : Port) (e : SessionEnd) (s : State) :
    TeardownBlocks x e s (teardown x e s) := by
  obtain ⟨tmb, trp, session, consent⟩ := withdrawn_kept x s
  obtain ⟨c, u, k, h⟩ := teardown_frame x e s
  rw [h]
  constructor <;>
    simp [worked, teardownConsent, setConsent, teardownTmb, tmb, trp, session, consent]

section

variable (x : Port) (e : SessionEnd) (s : State)

theorem claimOwner_teardown (r : Resource) : claimOwner r (teardown x e s)
    = if claimOwner r s = some x then none else claimOwner r s := by
  have claims : claimOwner r (teardown x e s)
      = claimOwner r (relieved (fun m => m.port == x) (withdrawn x s)) := by
    unfold claimOwner
    rw [(teardown_blocks x e s).claims]
    rfl
  exact claims.trans ((withdrawn_shares x s).claim r)

theorem tget_teardown_cfe (c : ExtChannel) : tget (teardown x e s).cfe c
    = if tget s.ses.claims.channel c = some x then defaultDescriptor else tget s.cfe c := by
  rw [(teardown_blocks x e s).cfe]
  exact (withdrawn_shares x s).cfe c

theorem monitor_teardown (i : MonId) : monitor i (teardown x e s)
    = if tget s.ses.claims.monitor i = some x then releasedMonitor else monitor i s := by
  unfold monitor
  rw [(teardown_blocks x e s).mon]
  exact (withdrawn_shares x s).mon i

theorem tget_teardown_owner (n : SourceId) : tget (teardown x e s).trg.owner n
    = if tget s.ses.claims.source n = some x then none else tget s.trg.owner n := by
  rw [(teardown_blocks x e s).trg]
  exact (withdrawn_shares x s).owner n

theorem tget_teardown_bound (n : SourceId) : tget (teardown x e s).trg.bound n
    = (tget s.trg.bound n).filter fun id => !(sequence id s).any fun q => q.owner == x := by
  rw [(teardown_blocks x e s).trg]
  exact (withdrawn_shares x s).bound n

theorem tget_teardown_line (n : Fin 4) : tget (teardown x e s).trg.line n
    = if tget s.ses.claims.source (lineSource n) = some x
      then ⟨.rising, (tget s.trg.line n).level⟩ else tget s.trg.line n := by
  rw [(teardown_blocks x e s).trg]
  simp [withdrawn, teardownClaims, setClaims, teardownMon, teardownTrg, tornChannels, teardownSeq,
    teardownSch, unsettled, markConfigChanged]

theorem tget_teardown_timer (n : Fin 4) : tget (teardown x e s).trg.timer n
    = if tget s.ses.claims.source (timerSource n) = some x
      then ⟨1000, .stopped⟩ else tget s.trg.timer n := by
  rw [(teardown_blocks x e s).trg]
  simp [withdrawn, teardownClaims, setClaims, teardownMon, teardownTrg, tornChannels, teardownSeq,
    teardownSch, unsettled, markConfigChanged, defaultTimer]

theorem tget_teardown_snapshot (c : Channel) : tget (teardown x e s).res.snapshot c
    = if claimsChannel x c s = true then invalidEntry (tget s.res.snapshot c)
      else tget s.res.snapshot c := by
  rw [(teardown_blocks x e s).snapshot]
  exact tget_tmap ..

theorem resultQueue_teardown (y : Port) :
    resultQueue y (teardown x e s) = resultQueue y (teardownRes x e s) := by
  unfold resultQueue
  rw [(teardown_blocks x e s).queue]

theorem hostPort_teardown (y : Port) :
    hostPort y (teardown x e s) = hostPort y (teardownRes x e s) := by
  unfold hostPort
  rw [(teardown_blocks x e s).host]

end

/-! ### Appends -/

theorem hostPort_raiseFlag_congr {x y : Port} {f : Flag} {s u : State} (h : u.host = s.host) :
    hostPort y (raiseFlag x f u) = hostPort y (raiseFlag x f s) := by
  unfold hostPort
  rw [raiseFlag_host_congr h]

theorem hostPort_raiseFlag_other (x : Port) (f : Flag) (s : State) :
    hostPort (otherPort x) (raiseFlag x f s) = hostPort (otherPort x) s :=
  hostPort_setHostPort_other ..

theorem resultQueue_appendRecord (x y : Port) (mk : Nat → Record) (s : State) :
    resultQueue y (appendRecord x mk s)
      = if y = x then (resultQueue x s).append mk else resultQueue y s := by
  rw [appendRecord_eq, ← resultQueue_setQueue]
  cases (resultQueue x s).appendFlag <;> rfl

theorem hostPort_appendRecord (x y : Port) (mk : Nat → Record) (s : State) :
    hostPort y (appendRecord x mk s)
      = hostPort y ((resultQueue x s).appendFlag.elim s fun f => raiseFlag x f s) := by
  rw [appendRecord_eq]
  cases (resultQueue x s).appendFlag with
  | none => rfl
  | some f => exact hostPort_raiseFlag_congr rfl

theorem ResultQueue.append_of_lt {q : ResultQueue} (mk : Nat → Record)
    (h : q.records.length < 64) :
    q.append mk = ⟨q.records ++ [mk q.gap], q.delivered, 0, q.watermark⟩ := if_pos h

theorem ResultQueue.append_of_le {q : ResultQueue} (mk : Nat → Record)
    (h : 64 ≤ q.records.length) :
    q.append mk = ⟨q.records, q.delivered, min 255 (q.gap + 1), q.watermark⟩ :=
  if_neg (Nat.not_lt.mpr h)

theorem ResultQueue.appendFlag_eq (q : ResultQueue) : q.appendFlag
    = if 64 ≤ q.records.length then some .gap
      else if q.records.length + 1 = q.watermark then some .results else none := by
  unfold appendFlag
  by_cases full : 64 ≤ q.records.length
  · rw [if_pos full]
    exact if_neg (Nat.not_lt.mpr full)
  · rw [if_neg full]
    exact if_pos (Nat.not_le.mp full)

/-- The share of the result unit leaves the other port's queue and registers (R108). -/
theorem teardownRes_other (x : Port) (e : SessionEnd) (s : State) :
    resultQueue (otherPort x) (teardownRes x e s) = resultQueue (otherPort x) s
      ∧ hostPort (otherPort x) (teardownRes x e s) = hostPort (otherPort x) s := by
  cases e with
  | close => exact ⟨PerPort.get_set_other .., rfl⟩
  | lapse t =>
    refine ⟨(resultQueue_appendRecord ..).trans (if_neg (otherPort_ne x)), ?_⟩
    refine (hostPort_appendRecord ..).trans ?_
    cases (resultQueue x s).appendFlag with
    | none => rfl
    | some f => exact hostPort_raiseFlag_other x f s

/-! ### Sequences and the scheduler after a teardown -/

theorem external_channelOf (d : ExtChannel) : external (channelOf d) = some d := dif_pos d.isLt

theorem claimsChannel_iff {x : Port} {c : Channel} {s : State} : claimsChannel x c s = true
    ↔ ∃ d, c = channelOf d ∧ tget s.ses.claims.channel d = some x := by
  constructor
  · intro h
    unfold claimsChannel at h
    split at h
    · next d hd => exact ⟨d, (channelOf_external hd).symm, by simpa using h⟩
    · cases h
  · rintro ⟨d, rfl, h⟩
    simp [claimsChannel, external_channelOf, h]

/-- The sequences of the port are gone; the others keep what they were made with (R52). -/
theorem make_teardown (x : Port) (e : SessionEnd) (s : State) (id : SeqId) :
    (sequence id (teardown x e s)).map Sequence.make
      = ((sequence id s).filter fun q => q.owner != x).map Sequence.make := by
  rw [(teardown_servesOther x e s).made id]
  have entry := (withdrawn_shares x s).sequence id
  unfold sequence at entry ⊢
  rw [(tornState_work x e s).2.1, entry]
  rfl

/-- The step counts (R52). -/
theorem counts_teardown (x : Port) (e : SessionEnd) (s : State) :
    (teardown x e s).seq.stepTotal = s.seq.stepTotal - stepsHeld x s
      ∧ (teardown x e s).seq.stepCount = s.seq.stepCount.set x 0 := by
  have w := withdrawn_shares x s
  obtain ⟨total, count⟩ := (teardown_servesOther x e s).counts
  rw [total, count, (tornState_work x e s).2.1]
  exact ⟨w.stepTotal, w.stepCount⟩

/-! ### With no measurement of the port in flight -/

section

variable {x : Port} {s : State}

theorem any_port_eq_false (h : ∀ m, inFlight s = some m → m.port ≠ x) :
    (inFlight s).any (fun m => m.port == x) = false := by
  cases hm : inFlight s with
  | none => rfl
  | some m => simpa using h m hm

theorem teardown_of_other (e : SessionEnd) (h : ∀ m, inFlight s = some m → m.port ≠ x) :
    teardown x e s = tornState x e s := by
  rcases teardown_cases x e s with ⟨own, _⟩ | ⟨_, eq⟩
  · rw [any_port_eq_false h] at own
    cases own
  · exact eq

/-- The scheduler's share alone (R75). -/
theorem teardown_sch_of_other (e : SessionEnd) (h : ∀ m, inFlight s = some m → m.port ≠ x) :
    (teardown x e s).sch = { s.sch with
      urgent := s.sch.urgent.filter fun e => !(sequence e.seq s).any fun q => q.owner == x
      prompt := s.sch.prompt.filter fun e => e.port != x
      activeUrgent := s.sch.activeUrgent.filter fun p => p.owner != x
      activePrompt := s.sch.activePrompt.filter fun p => p.port != x
      lastServed := s.sch.lastServed.set x 15 } := by
  have w := withdrawn_shares x s
  have view := w.view
  unfold relievedView at view
  rw [any_port_unsettled, any_port_eq_false h] at view
  rw [teardown_of_other e h, (tornState_work x e s).2.2]
  exact congrArg (fun v => { (teardownSch x s).sch with view := v }) view

theorem sequence_teardown_of_other (e : SessionEnd) (h : ∀ m, inFlight s = some m → m.port ≠ x)
    (id : SeqId) : sequence id (teardown x e s) = (sequence id s).filter fun q => q.owner != x := by
  rw [teardown_of_other e h, sequence, (tornState_work x e s).2.1]
  exact (withdrawn_shares x s).sequence id

/-- The converter is left but for the mark (R11). -/
theorem teardown_cnv_of_other (e : SessionEnd) (h : ∀ m, inFlight s = some m → m.port ≠ x) :
    (teardown x e s).cnv = (markConfigChanged (fun c => claimsChannel x c s) s).cnv := by
  have cnv := (withdrawn_shares x s).cnv
  unfold relievedCnv at cnv
  rw [any_port_unsettled, any_port_eq_false h] at cnv
  rw [teardown_of_other e h, (tornState_work x e s).1, cnv, ← unsettled_cnv]
  rfl

end

/-! ### With a measurement of the port in flight -/

theorem teardownRes_setCnv (x : Port) (e : SessionEnd) (c : Converter) (s : State) :
    teardownRes x e (s.setCnv c) = (teardownRes x e s).setCnv c := by
  cases e with
  | close => rfl
  | lapse t =>
    change appendRecord x _ _ = (appendRecord x _ _).setCnv c
    rw [appendRecord_eq, appendRecord_eq]
    change (resultQueue x s).appendFlag.elim _ _ = _
    cases (resultQueue x s).appendFlag <;> rfl

/-- Apart from the mark, the shares neither read nor write the converter. -/
theorem withdrawn_idle (x : Port) (s : State) :
    withdrawn x (s.setCnv { s.cnv with state := .idle })
      = (withdrawn x s).setCnv { s.cnv with state := .idle } := by
  simp only [withdrawn, unsettled, markConfigChanged, teardownSch, teardownSeq, tornChannels,
    teardownTrg, teardownMon, teardownClaims, setClaims]
  rfl

theorem shared_idle (x : Port) (e : SessionEnd) (s : State) :
    shared x e (s.setCnv { s.cnv with state := .idle })
      = (shared x e s).setCnv { s.cnv with state := .idle } := by
  unfold shared
  rw [withdrawn_idle, show ∀ u c, teardownTmb x (State.setCnv u c) = (teardownTmb x u).setCnv c
    from fun _ _ => rfl, teardownRes_setCnv]
  rfl

/-- The converter keeps trim, trim state and store. -/
theorem shared_cnv_idle (x : Port) (e : SessionEnd) (s : State) :
    { (shared x e s).cnv with state := .idle } = { s.cnv with state := .idle } := by
  have cnv : (shared x e s).cnv = (unsettled x s).cnv := by
    rw [shared_eq]
    simp [teardownConsent, setConsent, teardownTmb, withdrawn, teardownClaims, setClaims,
      teardownMon, teardownTrg, tornChannels, teardownSeq, teardownSch]
  rw [cnv, unsettled_cnv]
  rfl

/-- A measurement of the port is abandoned: a dispatch follows, with the view FREE (R75). -/
theorem teardown_of_own {x : Port} {s : State} {m : Measurement} (e : SessionEnd)
    (hm : inFlight s = some m) (hx : m.port = x) {u : State}
    (hu : u = teardown x e (s.setCnv { s.cnv with state := .idle })) :
    teardown x e s = dispatch (u.setSch { u.sch with view := .free }) := by
  have rest : u = shared x e (s.setCnv { s.cnv with state := .idle }) := by
    rw [hu, teardown_eq, abandonWhere, inFlight_shared, inFlight_unsettled, inFlight_of_idle rfl]
    rfl
  have own : (inFlight (shared x e s)).any (fun m => m.port == x) = true := by
    rw [inFlight_shared, any_port_unsettled, hm]
    simpa using hx
  rw [rest, shared_idle, teardown_eq, abandonWhere_eq, if_pos own]
  unfold relieved relievedCnv relievedView
  rw [if_pos own, if_pos own, shared_cnv_idle]
  rfl

/-! ### The teardown as a whole -/

section

variable (x : Port) (e : SessionEnd) (s : State)

theorem owners_teardown (agree : copiesAgree s) :
    (∀ c, (tget (teardown x e s).cfe c).owner ≠ some x)
      ∧ (∀ i, (monitor i (teardown x e s)).owner ≠ some x)
      ∧ ∀ n, tget (teardown x e s).trg.owner n ≠ some x := by
  obtain ⟨channels, monitors, sources, _⟩ := agree
  refine ⟨fun c => ?_, fun i => ?_, fun n => ?_⟩
  · rw [tget_teardown_cfe]
    split
    · exact nofun
    · next other => rwa [channels]
  · rw [monitor_teardown]
    split
    · exact nofun
    · next other => rwa [monitors]
  · rw [tget_teardown_owner]
    split
    · exact nofun
    · next other => rwa [sources]

theorem bound_teardown_iff (n : SourceId) (id : SeqId) :
    tget (teardown x e s).trg.bound n = some id ↔
      tget s.trg.bound n = some id ∧ ∀ q, sequence id s = some q → q.owner ≠ x := by
  rw [tget_teardown_bound, Option.filter_eq_some_iff]
  cases sequence id s <;> simp

/-- Each sequence of the port is gone, each other is still made as it was (R52). -/
theorem sequence_teardown_cases (id : SeqId) : match sequence id s with
    | none => sequence id (teardown x e s) = none
    | some q => if q.owner = x then sequence id (teardown x e s) = none
      else ∃ p, sequence id (teardown x e s) = some p ∧ p.owner = q.owner ∧ p.kind = q.kind
        ∧ p.steps = q.steps := by
  have made := make_teardown x e s id
  split
  · next hq => simpa [hq] using made
  · next q hq =>
    rw [hq] at made
    split
    · next own =>
      rw [Option.filter_some, if_neg (by simpa using own)] at made
      simpa using made
    · next other =>
      rw [Option.filter_some, if_pos (by simpa using other), Option.map_some,
        Option.map_eq_some_iff] at made
      obtain ⟨p, hp, alike⟩ := made
      exact ⟨p, hp, Sequence.make_eq alike⟩

/-- What waits or is active after a teardown is the other port's (R75). -/
theorem requests_teardown : (∀ r, r ∈ (teardown x e s).sch.urgent →
      r ∈ s.sch.urgent ∧ ∀ q, sequence r.seq s = some q → q.owner ≠ x)
    ∧ ∀ p, p ∈ (teardown x e s).sch.prompt → p ∈ s.sch.prompt ∧ p.port ≠ x := by
  have w := withdrawn_shares x s
  have served := teardown_servesOther x e s
  have sch := (tornState_work x e s).2.2
  refine ⟨fun r hr => ?_, fun p hp => ?_⟩
  · have before := served.urgent hr
    rw [sch, w.urgent, List.mem_filter] at before
    refine ⟨before.1, fun q hq own => ?_⟩
    have entry : sequence r.seq (unsettled x s) = some q := hq
    simp [entry, own] at before
  · have before := served.prompt hp
    rw [sch, w.prompt, List.mem_filter] at before
    exact ⟨before.1, by simpa using before.2⟩

theorem result_teardown_close :
    resultQueue x (teardown x .close s) = ⟨[], 0, 0, 16⟩
      ∧ hostPort x (teardown x .close s) = hostPort x s := by
  rw [resultQueue_teardown, hostPort_teardown]
  exact ⟨PerPort.get_set_same .., rfl⟩

theorem result_teardown_lapse (time : Time) (q : ResultQueue) (hq : q = resultQueue x s) :
    (q.records.length < 64 → resultQueue x (teardown x (.lapse time) s)
        = ⟨q.records ++ [.notice .leaseLapsed time q.gap], q.delivered, 0, q.watermark⟩)
      ∧ (64 ≤ q.records.length → resultQueue x (teardown x (.lapse time) s)
        = ⟨q.records, q.delivered, min 255 (q.gap + 1), q.watermark⟩)
      ∧ hostPort x (teardown x (.lapse time) s) = hostPort x
        (if 64 ≤ q.records.length then raiseFlag x .gap s
         else if q.records.length + 1 = q.watermark then raiseFlag x .results s else s) := by
  have queue : resultQueue x (teardown x (.lapse time) s)
      = q.append fun gap => .notice .leaseLapsed time gap := by
    rw [resultQueue_teardown, hq]
    exact (resultQueue_appendRecord ..).trans (if_pos rfl)
  have host : hostPort x (teardown x (.lapse time) s)
      = hostPort x (q.appendFlag.elim s fun f => raiseFlag x f s) := by
    rw [hostPort_teardown, hq]
    exact hostPort_appendRecord ..
  refine ⟨fun h => queue.trans (q.append_of_lt _ h), fun h => queue.trans (q.append_of_le _ h), ?_⟩
  rw [host, q.appendFlag_eq]
  split
  · rfl
  · split <;> rfl

end

/-- A mark set again, or left (R11). -/
theorem Measurement.mark_eq (m : Measurement) (b : Bool) :
    (if b = true then { m with cfgChanged := true } else m)
      = { m with cfgChanged := m.cfgChanged || b } := by
  cases b <;> simp

section

variable {x : Port} {s : State} {mine : Channel → Bool}

theorem claimsChannel_eq (h : ∀ d, mine d = true ↔ ∃ c, d = channelOf c
    ∧ tget s.ses.claims.channel c = some x) (d : Channel) : claimsChannel x d s = mine d := by
  rw [Bool.eq_iff_iff, claimsChannel_iff, h]

/-- The measurement of the other port goes on, marked where it is on a channel that `x` had claimed
(R11). -/
theorem teardown_cnv_marks (e : SessionEnd) (others : ∀ m, inFlight s = some m → m.port ≠ x)
    (h : ∀ d, mine d = true ↔ ∃ c, d = channelOf c ∧ tget s.ses.claims.channel c = some x) :
    (teardown x e s).cnv = { s.cnv with
      state := s.cnv.state.update fun m =>
        { m with cfgChanged := m.cfgChanged || mine m.channel } } := by
  rw [teardown_cnv_of_other e others]
  unfold markConfigChanged
  simp only [claimsChannel_eq h, Measurement.mark_eq, State.setCnv_cnv]

theorem inFlight_teardown_of_other (e : SessionEnd)
    (others : ∀ m, inFlight s = some m → m.port ≠ x)
    (h : ∀ d, mine d = true ↔ ∃ c, d = channelOf c ∧ tget s.ses.claims.channel c = some x) :
    inFlight (teardown x e s)
      = (inFlight s).map fun m => { m with cfgChanged := m.cfgChanged || mine m.channel } := by
  unfold inFlight
  rw [teardown_cnv_marks e others h]
  cases s.cnv.state <;> rfl

end

/-- Settles O18: the shares are read back block by block; where a dispatch follows, it finds no work
of the port. -/
theorem teardownResult : Obligations.TeardownResult := by
  rintro x e s t rfl
  have blocks := teardown_blocks x e s
  have workless := (teardown_servesOther x e s).workless
  obtain ⟨total, count⟩ := counts_teardown x e s
  obtain ⟨urgent, prompt⟩ := requests_teardown x e s
  obtain ⟨otherQueue, otherHost⟩ := teardownRes_other x e s
  refine ⟨claimOwner_teardown x e s, owners_teardown x e s,
    fun c hc => (tget_teardown_cfe x e s c).trans (if_neg hc), fun c hc => ?snapshot,
    fun i hi => (monitor_teardown x e s i).trans (if_neg hi), tget_teardown_owner x e s,
    tget_teardown_line x e s, fun n hn => (tget_teardown_timer x e s n).trans (if_neg hn),
    bound_teardown_iff x e s, total, count,
    fun c hc => ⟨(tget_teardown_cfe x e s c).trans (if_pos hc), ?invalid⟩,
    fun i hi => (monitor_teardown x e s i).trans (if_pos hi),
    fun n hn => (tget_teardown_timer x e s n).trans (if_pos hn),
    sequence_teardown_cases x e s, urgent, prompt, workless.activeUrgent, workless.activePrompt,
    workless.lastServed, fun others => ?undisturbed,
    fun m hm hx u hu => teardown_of_own e hm hx hu, workless.inFlight, blocks.tmb, blocks.session,
    fun c => ?consent, ?close, ?lapse, (resultQueue_teardown x e s _).trans otherQueue,
    (hostPort_teardown x e s _).trans otherHost, blocks.trp⟩
  case snapshot =>
    rw [tget_teardown_snapshot, if_neg]
    rw [claimsChannel_iff]
    rintro ⟨d, hd, claimed⟩
    exact hc d hd claimed
  case invalid =>
    rw [tget_teardown_snapshot, if_pos (claimsChannel_iff.mpr ⟨c, rfl, hc⟩)]
    rfl
  case undisturbed =>
    have sch := teardown_sch_of_other e others
    rw [sch]
    refine ⟨rfl, rfl, rfl, fun p hp other => ?_, fun p hp other => ?_, rfl, rfl,
      fun id q hq other => ?_, fun mine hmine => ⟨?_, fun m hm => ?_⟩⟩
    · simp [hp, other]
    · simp [hp, other]
    · simp [sequence_teardown_of_other e others, hq, other]
    · rw [teardown_cnv_marks e others hmine]
      cases s.cnv.state <;> rfl
    · rw [inFlight_teardown_of_other e others hmine, hm, Option.map_some]
  case consent =>
    rw [blocks.consent, Option.filter_eq_some_iff]
    simp [imp_iff_not_or]
  case close =>
    rintro rfl
    exact result_teardown_close x s
  case lapse =>
    rintro time q rfl hq
    exact result_teardown_lapse x s time q hq

end Sys2Proof.Machine
end

section
/-! ## The pin reset and the trim load (R18 to R20, R54) -/

namespace Sys2Proof.Machine

/-- The release takes the levels in the state that the beginning of the pin reset left, as POWER_ON
does; RESETN is inactive after both. -/
theorem resetnRelease_pinReset (tpol : Level) (l : LineLevels) (s : State) :
    resetnRelease l (pinReset tpol s) = powerOn tpol l s := by
  have released : resetnRelease l (pinReset tpol s) = takeLevels l (pinReset tpol s) := if_pos rfl
  rw [released, powerOn, takeLevels_of_tripped l rfl, takeLevels_of_tripped l rfl]
  rfl

/-- Settles O11: a pin reset begins as POWER_ON does, and its release is POWER_ON's end. -/
theorem pinResetEqualsPowerOn : Obligations.PinResetEqualsPowerOn := by
  intro tpol s
  refine ⟨pinReset tpol s, rfl, rfl, rfl, rfl, rfl, rfl, fun x => ?ports, fun l =>
    ⟨powerOn tpol l s, congrArg _ (resetnRelease_pinReset tpol l s), rfl⟩⟩
  case ports => cases x <;> exact ⟨rfl, rfl⟩

theorem runnable_of_none {x : Port} {id : SeqId} {s : State} (h : sequence id s = none) :
    runnable x id s = false := by
  unfold runnable
  rw [h]

/-- A dispatch with no request, no pass and no sequence finds no work (R59, R61). -/
theorem dispatch_of_no_work {s : State} (ha : s.sch.activeUrgent = none) (hu : s.sch.urgent = [])
    (hp : s.sch.activePrompt = none) (h : s.sch.prompt = []) (hq : ∀ id, sequence id s = none) :
    dispatch s = s := by
  rw [dispatch_of_no_request ha hu hp h]
  exact rotate_of_none_runnable fun _ id => runnable_of_none (hq id)

@[simp] theorem loadTrim_state (c : Converter) : (loadTrim c).state = .idle := by
  unfold loadTrim
  split <;> rfl

@[simp] theorem loadTrim_store (c : Converter) : (loadTrim c).store = c.store := by
  unfold loadTrim
  split <;> rfl

theorem storeMatches_iff (store : Vector Word 9) :
    storeMatches store = true ↔ crc16 (store.toList.take 8) = tget store 8 := beq_iff_eq

theorem loadTrim_of_match {c : Converter} (h : crc16 (c.store.toList.take 8) = tget c.store 8) :
    loadTrim c = { c with state := .idle, trim := storeTrim c.store, trimState := .trimValid } :=
  if_pos ((storeMatches_iff _).mpr h)

theorem loadTrim_of_mismatch {c : Converter}
    (h : crc16 (c.store.toList.take 8) ≠ tget c.store 8) :
    loadTrim c = { c with state := .idle, trim := identityTrim, trimState := .trimFault } :=
  if_neg (mt (storeMatches_iff _).mp h)

/-- Settles O12: the load gives the converter by the check word, and the dispatch that follows finds
no work. -/
theorem trimLoadEnds : Obligations.TrimLoadEnds := by
  intro s starting inactive sch noSequence
  refine ⟨loadTrim s.cnv, ?_, loadTrim_state _, loadTrim_store _, ?_⟩
  · have ended : endOfTrimLoad s = releaseConverter (s.setCnv (loadTrim s.cnv)) :=
      if_pos ⟨starting, inactive⟩
    change Host.Outcome.next (endOfTrimLoad s) = _
    rw [ended, releaseConverter, State.setCnv_sch, sch]
    exact congrArg _ (dispatch_of_no_work rfl rfl rfl rfl noSequence)
  · split
    · next matched =>
      rw [loadTrim_of_match matched]
      exact ⟨rfl, rfl, rfl, rfl, rfl⟩
    · next mismatched =>
      rw [loadTrim_of_mismatch mismatched]
      exact ⟨rfl, fun i => tget_replicate ..⟩

end Sys2Proof.Machine
end

section
/-! ## Urgent requests and cuts (R27, R39, R56, R64, R65) -/

namespace Sys2Proof.Machine

/-- A measurement of a sequence is abandoned and reported CUT: its sequence's restart count rises and
a dispatch follows (R39, R65). -/
theorem cutReport_of_step {m : Measurement} {k : StepRef} {q : Sequence} {s : State}
    (hk : m.step = some k) (hq : sequence k.seq s = some q) :
    cutReport m (converterIdle s)
      = dispatch (setSequence k.seq (some { q with restarts := q.restarts + 1 })
          ((s.setCnv { s.cnv with state := .idle }).setSch { s.sch with view := .free })) := by
  have producer : sequence k.seq (converterIdle s) = some q := hq
  unfold cutReport updateSequence
  simp only [hk, producer]
  rfl

theorem converterCut_of_settling {m : Measurement} {t : Time} {s : State}
    (h : s.cnv.state = .settling m t) : converterCut s = cutReport m (converterIdle s) := by
  unfold converterCut
  rw [h]

theorem converterCut_of_sampling {m : Measurement} {t : Time} {s : State}
    (h : s.cnv.state = .sampling m t) :
    converterCut s = s.setCnv { s.cnv with state := .sampling { m with cutPending := true } t } := by
  unfold converterCut
  rw [h]

theorem Service.cuttable_iff {r : Service} : r.cuttable = true
    ↔ r.cls = .background ∧ r.shielded = false ∧ r.cutOrdered = false := by
  simp [Service.cuttable, and_assoc]

theorem considerUrgent_of_free {s : State} (h : s.sch.view = .free) :
    considerUrgent s = dispatch s := by
  unfold considerUrgent
  rw [h]

theorem considerUrgent_of_notReady {s : State} (h : s.sch.view = .notReady) :
    considerUrgent s = s := by
  unfold considerUrgent
  rw [h]

theorem considerUrgent_of_busy {s : State} {r : Service} (h : s.sch.view = .busy r) :
    considerUrgent s = if r.cuttable = true
      then converterCut (s.setSch { s.sch with view := .busy { r with cutOrdered := true } })
      else s := by
  unfold considerUrgent
  rw [h]

/-- Settles O31: by the view, and under BUSY by whether the measurement may be cut and where the
converter then stands. -/
theorem urgentRequests : Obligations.UrgentRequests := by
  refine ⟨?_, ?_⟩
  · rintro id budget arrival s u rfl
    exact ⟨fun free => considerUrgent_of_free free, fun waits => considerUrgent_of_notReady waits⟩
  · rintro id budget arrival s r busy u rfl
    have considered := considerUrgent_of_busy (r := r) (s := s.setSch { s.sch with
      urgent := s.sch.urgent ++ [⟨id, arrival,
        if budget = 0 then none else some (arrival + budget.setWidth 32)⟩] }) busy
    refine ⟨fun uncuttable => considered.trans (if_neg ?_),
      fun background unshielded unordered => ?_⟩
    · rw [Service.cuttable_iff]
      rintro ⟨background, unshielded, unordered⟩
      simp [background, unshielded, unordered] at uncuttable
    · have ordered := considered.trans
        (if_pos (Service.cuttable_iff.mpr ⟨background, unshielded, unordered⟩))
      refine ⟨fun m t sampling => ?_, fun m t k q settling hk hq => ?_⟩
      · exact ordered.trans (converterCut_of_sampling sampling)
      · refine ordered.trans ((converterCut_of_settling (t := t) ?_).trans (cutReport_of_step hk ?_))
        · exact settling
        · exact hq

end Sys2Proof.Machine
end

section
/-! ## Raw samples (R5, R7), the settle timer and samples (R23, R24, R28) -/

namespace Sys2Proof.Machine

/-! ### Saturation -/

theorem toInt_saturate (v : Int) : (saturate v).toInt = max (-32768) (min 32767 v) := by
  unfold saturate
  rw [BitVec.toInt_ofInt_eq_self] <;> omega

/-- A word is the saturation of `v` when it has the saturated value. -/
theorem saturate_eq {v : Int} {w : Word} (h : w.toInt = max (-32768) (min 32767 v)) :
    saturate v = w := BitVec.eq_of_toInt_eq ((toInt_saturate v).trans h.symm)

@[simp] theorem saturate_toInt (w : Word) : saturate w.toInt = w := by
  have low := w.le_toInt
  have high := w.toInt_lt
  exact saturate_eq (by omega)

theorem saturate_of_ge {v : Int} (h : 32767 ≤ v) : saturate v = 0x7FFF := by
  refine saturate_eq ?_
  rw [show (0x7FFF : Word).toInt = 32767 from rfl]
  omega

theorem saturate_of_le {v : Int} (h : v ≤ -32768) : saturate v = 0x8000 := by
  refine saturate_eq ?_
  rw [show (0x8000 : Word).toInt = -32768 from rfl]
  omega

/-- The next code stands for the next value, but for the last one, which stays (R25). -/
theorem saturate_toInt_succ (w : Word) :
    saturate (w.toInt + 1) = w ∨ w ≠ 0x7FFF ∧ saturate (w.toInt + 1) = w + 1 := by
  by_cases last : w = 0x7FFF
  · left
    rw [last]
    exact saturate_of_ge (by decide)
  · right
    have low := w.le_toInt
    have high := w.toInt_lt
    have below : w.toInt ≠ 32767 := fun e => last (BitVec.eq_of_toInt_eq e)
    refine ⟨last, saturate_eq ?_⟩
    rw [BitVec.toInt_add, show (1 : Word).toInt = 1 from rfl, Int.bmod_eq_of_le] <;> omega

/-! ### Nominal codes (R5, Table 1-3) -/

theorem nominalCode_eq (r : Range) (v : Rat) :
    nominalCode r v = saturate (wholeCode (codePosition r v)) := rfl

/-- Between two whole positions the code is one of the two (assumption 27). -/
theorem wholeCode_between {p : Rat} {c : Int} (low : (c : Rat) < p) (high : p < (c + 1 : Int)) :
    wholeCode p = c ∨ wholeCode p = c + 1 := by
  have floor : ⌊p⌋ = c := Int.floor_eq_iff.mpr ⟨low.le, by exact_mod_cast high⟩
  have ceil : ⌈p⌉ = c + 1 := Int.ceil_eq_iff.mpr ⟨by simpa using low, high.le⟩
  exact (wholeCode_eq p).imp (·.trans floor) (·.trans ceil)

theorem le_wholeCode {p : Rat} {c : Int} (h : (c : Rat) ≤ p) : c ≤ wholeCode p := by
  rcases wholeCode_eq p with e | e <;> rw [e]
  · exact Int.le_floor.mpr h
  · exact Int.le_ceil_iff.mpr (lt_of_lt_of_le (by simp) h)

theorem wholeCode_le {p : Rat} {c : Int} (h : p ≤ c) : wholeCode p ≤ c := by
  rcases wholeCode_eq p with e | e <;> rw [e]
  · exact Int.floor_le_iff.mpr (lt_of_le_of_lt h (by simp))
  · exact Int.ceil_le.mpr h

theorem nominalCode_nominalInput (r : Range) (w : Word) :
    nominalCode r (nominalInput r w.toInt) = w := by
  rw [nominalCode_eq, codePosition_nominalInput, wholeCode_intCast, saturate_toInt]

theorem nominalCode_between {r : Range} {w : Word} {v : Rat}
    (low : (nominalInput r w.toInt : Rat) < v) (high : v < nominalInput r (w.toInt + 1)) :
    nominalCode r v = w ∨ w ≠ 0x7FFF ∧ nominalCode r v = w + 1 := by
  have above := codePosition_strictMono r low
  have below := codePosition_strictMono r high
  rw [codePosition_nominalInput] at above below
  rw [nominalCode_eq]
  rcases wholeCode_between above below with e | e <;> rw [e]
  · exact .inl (saturate_toInt w)
  · exact saturate_toInt_succ w

theorem nominalCode_of_ge {r : Range} {v : Rat} (h : (nominalInput r 32768 : Rat) ≤ v) :
    nominalCode r v = 0x7FFF := by
  have beyond := codePosition_mono r h
  rw [codePosition_nominalInput] at beyond
  exact saturate_of_ge (le_trans (by decide) (le_wholeCode beyond))

theorem nominalCode_of_le {r : Range} {v : Rat} (h : v ≤ nominalInput r (-32768)) :
    nominalCode r v = 0x8000 := by
  have beyond := codePosition_mono r h
  rw [codePosition_nominalInput] at beyond
  exact saturate_of_le (wholeCode_le beyond)

/-! ### What the converter sees (R2, R7) -/

theorem analogSource_external {c o : Fin 24} {d : Channel} (mode : InputMode) (hd : d.val = c.val)
    (ho : o.val = c.val + 1) :
    analogSource d mode = match mode with | .single => .pin c | .diff => .pinDifference c o := by
  obtain ⟨d, hlt⟩ := d
  obtain ⟨o, hol⟩ := o
  subst hd ho
  unfold analogSource
  rw [dif_pos c.isLt]
  cases mode
  · rfl
  · exact dif_pos hol

theorem analogSource_internal {i : Fin 8} {d : Channel} (mode : InputMode)
    (hd : d.val = i.val + 24) : analogSource d mode = .internalSource i := by
  unfold analogSource
  rw [dif_neg (by omega)]
  exact congrArg _ (Fin.ext (by simp [hd]))

/-! ### Samples -/

theorem settleExpiry_of_settling {m : Measurement} {t : Time} {s : State}
    (h : s.cnv.state = .settling m t) :
    settleExpiry s = s.setCnv { s.cnv with state := .sampling m s.tmb.counter } := by
  unfold settleExpiry
  rw [h]

/-- A sample in SAMPLING: a pending cut first, then the count (R24). -/
theorem sampleCompletion_of_sampling (raw : Word) {m : Measurement} {t : Time} {s : State}
    (h : s.cnv.state = .sampling m t) :
    sampleCompletion raw s = if m.cutPending = true
      then cutReport (addSample raw m) (converterIdle s)
      else if m.taken + 1 < m.samples.toNat
        then s.setCnv { s.cnv with state := .sampling (addSample raw m) t }
        else takeOutcome (outcomeOf (addSample raw m) t s.cnv) (converterIdle s) := by
  unfold sampleCompletion
  rw [h]
  rfl

theorem addSample_eq (raw : Word) (m : Measurement) :
    addSample raw m = { m with
      sum := m.sum + raw.toInt, taken := m.taken + 1
      clip := m.clip || raw == 0x8000 || raw == 0x7FFF } := by
  unfold addSample isClipped
  rw [Bool.or_assoc]

/-- Settles O32: the raw sample by where its input lies on the code scale, the settle timer, and a
sample by whether a cut is pending. -/
theorem settleSamplesCuts : Obligations.SettleSamplesCuts := by
  refine ⟨⟨fun r w v => ⟨nominalCode_nominalInput r w, nominalCode_between, nominalCode_of_ge,
    nominalCode_of_le⟩, fun m pins inside => ⟨fun c o hc ho => ?_, fun i hi => ?_⟩⟩,
    fun s m t settling => congrArg _ (settleExpiry_of_settling settling),
    fun raw s m t sampling => ⟨fun uncut more => ?_, fun k q cut hk hq => ?_⟩⟩
  · unfold rawSample
    rw [analogSource_external m.mode hc ho]
    cases m.mode <;> rfl
  · unfold rawSample
    rw [analogSource_internal m.mode hi]
    rfl
  · refine congrArg _ ((sampleCompletion_of_sampling raw sampling).trans ?_)
    rw [if_neg (by simp [uncut]), if_pos more, addSample_eq]
  · refine congrArg _ ((sampleCompletion_of_sampling raw sampling).trans ?_)
    rw [if_pos cut]
    exact cutReport_of_step (m := addSample raw m) hk hq

end Sys2Proof.Machine
end

section
/-! ## The last sample of a CONVERT_NOW (R25, R26, R63, R72) -/

namespace Sys2Proof.Machine

/-! ### The outcome -/

/-- The last sample completes the measurement, and its outcome is taken at the IDLE converter (R24 to
R26). -/
theorem sampleCompletion_of_last {raw : Word} {s : State} {m : Measurement} {t : Time}
    (sampling : s.cnv.state = .sampling m t) (uncut : m.cutPending = false)
    (last : m.samples.toNat ≤ m.taken + 1) :
    sampleCompletion raw s
      = takeOutcome (outcomeOf (addSample raw m) t s.cnv) (converterIdle s) := by
  rw [sampleCompletion_of_sampling raw sampling, if_neg (by simp [uncut]),
    if_neg (Nat.not_lt.mpr last)]

/-- The outcome of the last sample, with the trimmed value in full (R25, R26). -/
theorem outcomeOf_addSample {raw w : Word} {m : Measurement} {t : Time} {c : Converter} {v : Int}
    (hv : v = (m.sum + raw.toInt) / (m.samples.toNat : Int)
        * ((tget c.trim (trimIndex m.range)).gain.toNat : Int) / 32768
      + (tget c.trim (trimIndex m.range)).offset.toInt)
    (hw : w.toInt = max (-32768) (min 32767 v)) :
    outcomeOf (addSample raw m) t c
      = ⟨m.port, m.step, m.channel, w, t, m.clip || raw == 0x8000 || raw == 0x7FFF, m.cfgChanged,
        c.trimState == .trimFault⟩ := by
  rw [addSample_eq, ← saturate_eq hw, hv]
  rfl

/-! ### The record and the snapshot value -/

/-- The record of a CONVERT_NOW: no sequence, no LATE and no restarts (R72, R90). -/
def Measured.immediateRecord (o : Measured) (gap : Nat) : Record :=
  .measurement none o.channel o.value o.stamp false o.clipped o.cfgChanged o.untrimmed 0 gap

/-- The snapshot value of a CONVERT_NOW, which has no producing sequence (R72, R104). -/
def Measured.immediateValue (o : Measured) : SnapshotValue :=
  ⟨o.value, o.stamp, o.port, none, o.clipped, o.untrimmed⟩

/-- The outcome of a CONVERT_NOW in the result unit: its record appended, its snapshot value written
(R92). -/
def storeImmediate (o : Measured) (s : State) : State :=
  updateSnapshot o.channel o.immediateValue (appendRecord o.port o.immediateRecord s)

theorem appendRecord_snapshot (x : Port) (mk : Nat → Record) (s : State) :
    (appendRecord x mk s).res.snapshot = s.res.snapshot := by
  rw [appendRecord_eq]
  cases (resultQueue x s).appendFlag <;> rfl

/-- The result unit and the host ports take the outcome; the other blocks stay. -/
theorem storeImmediate_frame (o : Measured) (s : State) :
    ∃ r h, storeImmediate o s = (s.setRes r).setHost h := by
  obtain ⟨r, h, appended⟩ := appendRecord_touches o.port o.immediateRecord s
  unfold storeImmediate
  rw [appended]
  exact ⟨_, h, rfl⟩

theorem tget_storeImmediate_snapshot (o : Measured) (s : State) (c : Channel) :
    tget (storeImmediate o s).res.snapshot c = if c = o.channel
      then ⟨(tget s.res.snapshot o.channel).generation + 1, some o.immediateValue⟩
      else tget s.res.snapshot c := by
  rw [← appendRecord_snapshot o.port o.immediateRecord s]
  exact tget_tset ..

theorem resultQueue_storeImmediate (o : Measured) (s : State) (x : Port) :
    resultQueue x (storeImmediate o s)
      = if x = o.port then (resultQueue o.port s).append o.immediateRecord else resultQueue x s :=
  resultQueue_appendRecord ..

/-! ### The scheduler's part -/

theorem serviceClass_of_busy {s : State} {r : Service} (h : s.sch.view = .busy r) :
    serviceClass s = some r.cls := by
  unfold serviceClass
  rw [h]

/-- The scheduler takes the outcome of a CONVERT_NOW: stored, handed to the monitors, the active
prompt pass and the service ended, and then a dispatch (R63, R72). -/
theorem takeOutcome_convertNow {o : Measured} {s t : State} (hs : o.step = none)
    (hc : serviceClass s = some .prompt)
    (ht : t = evaluateMonitors o.channel o.value (storeImmediate o s)) :
    takeOutcome o s
      = dispatch (t.setSch { t.sch with view := .free, activePrompt := none }) := by
  have unjudged : judgedFor o s = s := if_neg (by simp [hc])
  have ends : endsPass o s = true := by simp [endsPass, hs]
  have loud : isQuiet o s = false := by simp [isQuiet, hs]
  have record : recordOf o false s = o.immediateRecord := by
    funext gap
    simp [recordOf, passRefOf, restartsOf, hs, hc, Measured.immediateRecord]
  have handed : handOff o false s = t := by
    rw [handOff, loud, record, hs, ht]
    rfl
  have reported : concluded o s = t := by
    rw [concluded, unjudged, hs, hc]
    exact handed
  rw [takeOutcome_eq, unjudged, ends, hc, reported]
  rfl

/-- OFF monitors take no value (R113). -/
theorem evaluateMonitors_of_off (c : Channel) (v : Word) {s : State}
    (h : ∀ i, (monitor i s).state = .off) : evaluateMonitors c v s = s := by
  have kept : (tmap s.mon fun _ m => if m.channel = c then m.evaluate v else m) = s.mon := by
    refine table_ext fun i => ?_
    rw [tget_tmap, (Monitor.evaluated_evaluate (tget s.mon i) v).off (h i), ite_self]
  have quiet : (allEights.filter fun i => entersViolated (tget s.mon i) (tget s.mon i)) = [] := by
    simp [entersViolated]
  unfold evaluateMonitors
  rw [kept]
  dsimp only
  rw [quiet]
  rfl

/-- With OFF monitors and no other work the outcome is stored and the view is FREE. -/
theorem takeOutcome_convertNow_alone {o : Measured} {s : State} (hs : o.step = none)
    (hc : serviceClass s = some .prompt) (ha : s.sch.activeUrgent = none) (hu : s.sch.urgent = [])
    (hp : s.sch.prompt = []) (hq : ∀ id, sequence id s = none)
    (off : ∀ i, (monitor i s).state = .off) :
    takeOutcome o s
      = (storeImmediate o s).setSch { s.sch with view := .free, activePrompt := none } := by
  obtain ⟨r, h, frame⟩ := storeImmediate_frame o s
  have unheard : storeImmediate o s = evaluateMonitors o.channel o.value (storeImmediate o s) :=
    (evaluateMonitors_of_off _ _ (by rw [frame]; exact off)).symm
  rw [takeOutcome_convertNow hs hc unheard, frame]
  exact dispatch_of_no_work ha hu rfl hp hq

/-- Settles O33: the outcome of the last sample is a CONVERT_NOW's; with OFF monitors and no other
work it is stored, and the dispatch that follows changes nothing. -/
theorem convertNowCompletes : Obligations.ConvertNowCompletes := by
  refine ⟨?general, ?alone⟩
  case general =>
    rintro raw w s m t r v clip bad sampling uncut last step busy cls hv hw rfl rfl recorded updated
      handed hrec hupd hhand
    have outcome := outcomeOf_addSample (t := t) hv hw
    have completed := sampleCompletion_of_last (raw := raw) sampling uncut last
    rw [outcome, step] at completed
    have kept : recorded.res.snapshot = s.res.snapshot :=
      hrec ▸ appendRecord_snapshot ..
    have stored : updated = storeImmediate ⟨m.port, none, m.channel, w, t,
        m.clip || raw == 0x8000 || raw == 0x7FFF, m.cfgChanged, s.cnv.trimState == .trimFault⟩
        (converterIdle s) := by
      rw [hupd, ← kept, hrec]
      rfl
    exact congrArg Host.Outcome.next (completed.trans (takeOutcome_convertNow rfl
      ((serviceClass_of_busy busy).trans (congrArg some cls)) (hhand.trans (by rw [stored]))))
  case alone =>
    rintro raw s m t x v clip bad sampling uncut last step rfl busy ha hu hp noSequence off room hv
      rfl rfl
    have outcome := outcomeOf_addSample (t := t) hv (toInt_saturate v)
    have completed := sampleCompletion_of_last (raw := raw) sampling uncut last.ge
    generalize outcomeOf (addSample raw m) t s.cnv = o at outcome completed
    have stored := completed.trans (takeOutcome_convertNow_alone (s := converterIdle s)
      (by rw [outcome]; exact step) (serviceClass_of_busy busy) ha hu hp noSequence off)
    have snapshot := tget_storeImmediate_snapshot o (converterIdle s)
    have queue := resultQueue_storeImmediate o (converterIdle s)
    obtain ⟨res, host, frame⟩ := storeImmediate_frame o (converterIdle s)
    subst outcome
    refine ⟨_, saturate v, congrArg Host.Outcome.next stored, toInt_saturate v, ?cnv, rfl,
      (snapshot m.channel).trans (if_pos rfl), fun c other => (snapshot c).trans (if_neg other),
      congrArg ResultQueue.records ((queue m.port).trans
        ((if_pos rfl).trans (ResultQueue.append_of_lt _ room))),
      (queue (otherPort m.port)).trans (if_neg (otherPort_ne m.port)), ?others⟩
    case cnv =>
      rw [frame]
      rfl
    case others =>
      rw [frame]
      exact ⟨rfl, rfl, rfl, rfl, rfl, rfl, rfl⟩

end Sys2Proof.Machine
end

section
/-! ## Commands that name a sequence of the sender's own (R44 to R50) -/

namespace Sys2Proof.Machine

open Sys2Proof.Safety

/-! ### The sequence an argument names -/

theorem ownSequence_of_own {x : Port} {w : Word} {id : SeqId} {q : Sequence} {s : State}
    (f : SeqId → Sequence → Reply) (hw : w.toNat = id.val) (hq : sequence id s = some q)
    (ho : q.owner = x) : ownSequence x [w] s f = f id q := by
  unfold ownSequence
  simp only [numberBelow_of_toNat hw, hq, if_pos ho]

theorem ownSequence_of_lt {x : Port} {w : Word} {s : State} (f : SeqId → Sequence → Reply)
    (h : 15 < w.toNat) : ownSequence x [w] s f = .refuse .badArgument := by
  unfold ownSequence
  simp only [numberBelow_of_le (n := 16) h]

/-- A FREE entry and the other port's sequence are refused alike. -/
theorem ownSequence_of_other {x : Port} {w : Word} {id : SeqId} {s : State}
    (f : SeqId → Sequence → Reply) (hw : w.toNat = id.val)
    (h : sequence id s = none ∨ ∃ q, sequence id s = some q ∧ q.owner = otherPort x) :
    ownSequence x [w] s f = .refuse .notOwner := by
  unfold ownSequence
  simp only [numberBelow_of_toNat hw]
  rcases h with free | ⟨q, hq, other⟩
  · rw [free]
  · simp only [hq, other, otherPort_ne, if_false]

/-- The five commands that act on a sequence of the sender's own. -/
theorem exec_ownSequence {c : HostCommand}
    (h : [HostCommand.enable, .run, .stop, .halt, .deleteSequence].contains c = true) :
    ∃ f : Port → State → SeqId → Sequence → Reply, ∀ x tag args s,
      exec (commandRow x c tag args) s
        = .next (takeCommand x c tag (fun t => ownSequence x args t (f x t)) s) := by
  simp only [List.contains_eq_mem, List.mem_cons, List.not_mem_nil, or_false,
    decide_eq_true_eq] at h
  rcases h with rfl | rfl | rfl | rfl | rfl <;> exact ⟨_, fun _ _ _ _ => rfl⟩

/-- Settles O25: the five commands look their argument up in one way. -/
theorem ownSequenceOnly : Obligations.OwnSequenceOnly := by
  intro x c tag w s admitted named
  obtain ⟨f, hf⟩ := exec_ownSequence named
  rw [hf]
  exact ⟨fun above => congrArg _ (takeCommand_refuse tag (admits_of_admitted _ admitted)
      (ownSequence_of_lt _ above)),
    fun id hw other => congrArg _ (takeCommand_refuse tag (admits_of_admitted _ admitted)
      (ownSequence_of_other _ hw other))⟩

end Sys2Proof.Machine
end

section
/-! ## Definition and deletion (R43, R50, R77) -/

namespace Sys2Proof.Machine

open Sys2Proof.Safety

/-! ### DEFINE_SEQUENCE -/

/-- The ids below one are those that stand before it in the list of all. -/
theorem allSeqs_split (id : SeqId) :
    allSeqs = allSeqs.take id.val ++ id :: allSeqs.drop (id.val + 1)
      ∧ ∀ j ∈ allSeqs.take id.val, j < id := by
  revert id
  decide

theorem lowestFree_eq_some {id : SeqId} {s : State} (free : sequence id s = none)
    (lowest : ∀ j, j < id → sequence j s ≠ none) : lowestFree s = some id := by
  obtain ⟨split, below⟩ := allSeqs_split id
  refine List.find?_eq_some_iff_append.mpr ⟨by simp [free], _, _, split, fun j hj => ?_⟩
  simpa [Option.isSome_iff_ne_none] using lowest j (below j hj)

/-- A definition that every check lets pass (R42, R43). -/
theorem checkedDefine_taken {x : Port} {k : SeqKind} {steps : List SeqStep} {id : SeqId} {s : State}
    (owned : sourceOwned x k s = true) (mine : anyForeign x steps s = false)
    (free : lowestFree s = some id) (room : noRoom x steps.length s = false)
    (formed : anyAbsorbed steps s = false) (unbound : sourceBound k s = false) :
    checkedDefine x k steps s = .answer .ok [numberWord id.val] (allocate x id k steps s) := by
  simp [checkedDefine, owned, mine, free, room, formed, unbound]

/-- A binding leaves the owners, lines and timers of the sources. -/
theorem bindKind_trg (k : SeqKind) (id : SeqId) (s : State) :
    (bindKind k id s).trg = { s.trg with bound := (bindKind k id s).trg.bound } := by
  cases k <;> rfl

/-- Settles O23: every check passes, and the definition is read back block by block. -/
theorem defineSequence : Obligations.DefineSequence := by
  intro x tag k src b ws kind steps id s admitted h1 h16 hk hs source channels free lowest held
    total count
  have owned : sourceOwned x kind (endFrame x s) = true := by
    rw [← Bool.not_eq_false, sourceOwned_eq_false]
    rintro ⟨n, d, h, foreign⟩
    exact foreign (source n d h).1
  have unbound : sourceBound kind (endFrame x s) = false := by
    rw [← Bool.not_eq_true, sourceBound_eq_true]
    rintro ⟨n, d, h, bound⟩
    exact bound (source n d h).2
  have mine : anyForeign x steps (endFrame x s) = false := by
    rw [← Bool.not_eq_true, anyForeign_iff]
    rintro ⟨st, hst, foreign⟩
    exact Bool.false_ne_true ((channels st hst).1.symm.trans foreign)
  have formed : anyAbsorbed steps (endFrame x s) = false := by
    rw [← Bool.not_eq_true, anyAbsorbed_iff]
    rintro ⟨st, hst, absorbs⟩
    exact Bool.false_ne_true ((channels st hst).2.symm.trans absorbs)
  have room : noRoom x steps.length (endFrame x s) = false := by
    rw [← Bool.not_eq_true, noRoom_endFrame, noRoom_iff]
    omega
  have taken := (defineCommand_of_defined h1 h16 hk hs (endFrame x s)).trans
    (checkedDefine_taken owned mine (lowestFree_eq_some (s := endFrame x s) free lowest) room formed
      unbound)
  rw [allocate_eq, bindKind_trg] at taken
  refine ⟨_, congrArg _ (takeCommand_answer tag (admits_of_admitted _ admitted) taken),
    tget_tset_same .., fun j other => tget_tset_ne _ _ other, rfl, PerPort.get_set_same ..,
    PerPort.get_set_other .., fun n => ?binding, rfl, rfl, rfl,
    rfl, rfl, rfl, rfl, rfl, rfl, rfl, rfl, rfl⟩
  case binding =>
    cases kind with
    | triggered m d => exact tget_tset ..
    | keyed => rfl
    | continuous => rfl

/-! ### DELETE_SEQUENCE -/

theorem deleteCommand_of_own {x : Port} {w : Word} {id : SeqId} {q : Sequence} {s : State}
    (hw : w.toNat = id.val) (hq : sequence id s = some q) (ho : q.owner = x) :
    deleteCommand x [w] s = if q.state = .defined then .answer .ok [] (freeSequence x id q s)
      else .refuse .wrongState :=
  ownSequence_of_own _ hw hq ho

/-- An unbinding leaves the owners, lines and timers of the sources. -/
theorem unbindKind_trg (k : SeqKind) (s : State) :
    (unbindKind k s).trg = { s.trg with bound := (unbindKind k s).trg.bound } := by
  cases k <;> rfl

/-- Settles O24: the refusals by what the argument names, and the deletion read back block by
block. -/
theorem deleteSequence : Obligations.DeleteSequence := by
  intro x tag w s takes started
  refine ⟨fun closed => ?closed, fun opened => ?opened⟩
  case closed =>
    exact congrArg _ (takeCommand_noSession _ tag _ takes started
      (passesSession_of_not_open closed rfl (by decide) (by decide)))
  case opened =>
    have admits := admits_of_open .deleteSequence takes started opened
    refine ⟨fun above => congrArg _ (takeCommand_refuse tag admits (ownSequence_of_lt _ above)),
      fun id hw => ⟨fun other => congrArg _ (takeCommand_refuse tag admits
        (ownSequence_of_other _ hw other)), fun q hq ho => ?_⟩⟩
    have judged := deleteCommand_of_own (s := endFrame x s) hw hq ho
    refine ⟨fun enabled => congrArg _ (takeCommand_refuse tag admits
      (judged.trans (if_neg enabled))), fun defined => ?_⟩
    have taken := judged.trans (if_pos defined)
    rw [freeSequence_eq, unbindKind_trg] at taken
    refine ⟨_, congrArg _ (takeCommand_answer tag admits taken), tget_tset_same ..,
      fun j other => tget_tset_ne _ _ other, rfl, rfl, fun n => ?binding, rfl, rfl, rfl,
      rfl, rfl, rfl, rfl, rfl, rfl, rfl, rfl, rfl⟩
    case binding =>
      cases q.kind with
      | triggered m d => exact tget_tset ..
      | keyed => rfl
      | continuous => rfl

end Sys2Proof.Machine
end

section
/-! ## ENABLE, RUN and CONVERT_NOW (R44, R45, R71) -/

namespace Sys2Proof.Machine

open Sys2Proof.Safety

/-! ### ENABLE -/

theorem anyForeign_eq_false {x : Port} {steps : List SeqStep} {s : State} :
    anyForeign x steps s = false ↔ ∀ st, st ∈ steps → foreignTo x st.channel s = false := by
  simp [anyForeign]

theorem anyAbsorbed_eq_false {steps : List SeqStep} {s : State} :
    anyAbsorbed steps s = false ↔ ∀ st, st ∈ steps → absorbed st.channel s = false := by
  simp [anyAbsorbed]

theorem enableCommand_of_own {x : Port} {w : Word} {id : SeqId} {q : Sequence} {s : State}
    (hw : w.toNat = id.val) (hq : sequence id s = some q) (ho : q.owner = x) :
    enableCommand x [w] s = if anyForeign x q.steps s then .refuse .foreign
      else if q.state ≠ .defined then .refuse .wrongState
      else if anyAbsorbed q.steps s then .refuse .wrongState
      else .answer .ok [] (enableSequence id q s) :=
  ownSequence_of_own _ hw hq ho

theorem enableSequence_of_ne {id : SeqId} {q : Sequence} (s : State) (h : q.kind ≠ .continuous) :
    enableSequence id q s = setSequence id
      (some { q with state := .armed, index := 0, restarts := 0, misses := 0 }) s := by
  unfold enableSequence
  cases hk : q.kind with
  | triggered n d => rfl
  | keyed => rfl
  | continuous => exact absurd hk h

theorem enableSequence_of_continuous {id : SeqId} {q : Sequence} (s : State)
    (h : q.kind = .continuous) :
    enableSequence id q s = dispatchIfFree (setSequence id (some q.startPass) s) := by
  unfold enableSequence
  rw [h]

/-- Settles O26: the checks in their order, then the effect by kind. -/
theorem enable : Obligations.Enable := by
  intro x tag w id q s admitted hw hq ho
  have admits := admits_of_admitted .enable admitted
  have judged := enableCommand_of_own (s := endFrame x s) hw hq ho
  refine ⟨fun foreign => congrArg _ (takeCommand_refuse tag admits
    (judged.trans (if_pos (anyForeign_iff.mpr foreign)))), fun mine => ?_⟩
  have owned := judged.trans (if_neg (ne_true_of_eq_false (anyForeign_eq_false.mpr mine)))
  refine ⟨fun wrong => congrArg _ (takeCommand_refuse tag admits (owned.trans ?_)),
    fun defined formed => ?_⟩
  · rcases wrong with enabled | absorbs
    · exact if_pos enabled
    · rw [if_pos (anyAbsorbed_iff (s := endFrame x s) |>.mpr absorbs), ite_self]
  · have taken := (owned.trans (if_neg (not_not_intro defined))).trans
      (if_neg (ne_true_of_eq_false (anyAbsorbed_eq_false.mpr formed)))
    subst ho
    refine ⟨fun requested => congrArg _ (takeCommand_answer tag admits (taken.trans ?_)),
      fun continuous => congrArg _ (takeCommand_answer tag admits (taken.trans ?_))⟩
    · rw [enableSequence_of_ne _ requested]
    · rw [enableSequence_of_continuous _ continuous]
      rfl

/-! ### RUN -/

theorem promptFull_iff {x : Port} {s : State} : promptFull x s = true
    ↔ 8 ≤ s.sch.prompt.length ∨ 4 ≤ (s.sch.prompt.countP fun e => e.port == x) := by
  rw [promptFull, Bool.or_eq_true, decide_eq_true_eq, decide_eq_true_eq]
  rfl

theorem runCommand_of_own {x : Port} {w : Word} {id : SeqId} {q : Sequence} {s : State}
    (hw : w.toNat = id.val) (hq : sequence id s = some q) (ho : q.owner = x) :
    runCommand x [w] s = if promptFull x s then .refuse .full
      else if q.kind = .continuous then .refuse .wrongState
      else if q.state ≠ .armed then .refuse .wrongState
      else .answer .ok [] (runSequence x id q s) :=
  ownSequence_of_own _ hw hq ho

/-- RUN by the room in the prompt queue, the kind and the state (R45). -/
theorem exec_run_of_own {x : Port} (tag : Tag) {w : Word} {id : SeqId} {q : Sequence} {s : State}
    (admitted : admitted x s = true) (hw : w.toNat = id.val) (hq : sequence id s = some q)
    (ho : q.owner = x) :
    (promptFull x s = true → exec (.run x tag [w]) s = .next (refused x .full tag s))
      ∧ (promptFull x s = false →
        (q.kind = .continuous ∨ q.state ≠ .armed →
          exec (.run x tag [w]) s = .next (refused x .wrongState tag s))
        ∧ (q.kind ≠ .continuous → q.state = .armed →
          exec (.run x tag [w]) s
            = .next (answered x .run tag [] (runSequence x id q (endFrame x s))))) := by
  have admits := admits_of_admitted .run admitted
  have judged := runCommand_of_own (s := endFrame x s) hw hq ho
  refine ⟨fun full => congrArg _ (takeCommand_refuse tag admits (judged.trans (if_pos full))),
    fun room => ?_⟩
  have fits := judged.trans (if_neg (ne_true_of_eq_false room))
  refine ⟨fun wrong => congrArg _ (takeCommand_refuse tag admits (fits.trans ?_)),
    fun requested armed => congrArg _ (takeCommand_answer tag admits (fits.trans ?_))⟩
  · rcases wrong with continuous | idle
    · exact if_pos continuous
    · rw [if_pos idle, ite_self]
  · rw [if_neg requested, if_neg (not_not_intro armed)]

/-! ### CONVERT_NOW -/

theorem samplesOf_toNat (k : SampleCount) : samplesOf k.toNat = some k := by cases k <;> rfl

theorem convertNowCommand_of_undefined {x : Port} {ch n : Word}
    (h : numberBelow 32 ch = none ∨ samplesOf n.toNat = none) (s : State) :
    convertNowCommand x [ch, n] s = .refuse .badArgument := by
  unfold convertNowCommand
  dsimp only
  split
  · next hc hn =>
    rcases h with h | h
    · cases hc.symm.trans h
    · cases hn.symm.trans h
  · rfl

theorem convertNowCommand_of_defined {x : Port} {ch n : Word} {c : Channel} {k : SampleCount}
    (hc : ch.toNat = c.val) (hn : n.toNat = k.toNat) (s : State) :
    convertNowCommand x [ch, n] s = if foreignTo x c s then .refuse .foreign
      else if promptFull x s then .refuse .full
      else if absorbed c s then .refuse .wrongState
      else .answer .ok [] (promptRequest ⟨x, .immediate c k⟩ s) := by
  unfold convertNowCommand
  simp only [numberBelow_of_toNat hc, hn, samplesOf_toNat]

/-- CONVERT_NOW of a channel and a sample count: the first check that fails decides (R71). -/
theorem exec_convertNow_of_defined {x : Port} (tag : Tag) {ch n : Word} {c : Channel}
    {k : SampleCount} {s : State} (admitted : admitted x s = true) (hc : ch.toNat = c.val)
    (hn : n.toNat = k.toNat) :
    (foreignTo x c s = true →
        exec (.convertNow x tag [ch, n]) s = .next (refused x .foreign tag s))
      ∧ (foreignTo x c s = false →
        (promptFull x s = true →
          exec (.convertNow x tag [ch, n]) s = .next (refused x .full tag s))
        ∧ (promptFull x s = false →
          (absorbed c s = true →
            exec (.convertNow x tag [ch, n]) s = .next (refused x .wrongState tag s))
          ∧ (absorbed c s = false →
            exec (.convertNow x tag [ch, n]) s = .next (answered x .convertNow tag []
              (promptRequest ⟨x, .immediate c k⟩ (endFrame x s)))))) := by
  have admits := admits_of_admitted .convertNow admitted
  have judged := convertNowCommand_of_defined (x := x) hc hn (endFrame x s)
  refine ⟨fun foreign => congrArg _ (takeCommand_refuse tag admits
    (judged.trans (if_pos foreign))), fun mine => ?_⟩
  have owned := judged.trans (if_neg (ne_true_of_eq_false mine))
  refine ⟨fun full => congrArg _ (takeCommand_refuse tag admits (owned.trans (if_pos full))),
    fun room => ?_⟩
  have fits := owned.trans (if_neg (ne_true_of_eq_false room))
  exact ⟨fun absorbs => congrArg _ (takeCommand_refuse tag admits (fits.trans (if_pos absorbs))),
    fun formed => congrArg _ (takeCommand_answer tag admits
      (fits.trans (if_neg (ne_true_of_eq_false formed))))⟩

/-- Settles O27: both commands ask for room in the prompt queue, and what they add there is a prompt
request. -/
theorem promptRequests : Obligations.PromptRequests := by
  refine ⟨fun x tag w id q s admitted hw hq ho => ?run,
    fun x tag ch n s admitted undefined => ?undefined,
    fun x tag ch n c k s admitted hc hn => ?convertNow⟩
  case run =>
    obtain ⟨full, room⟩ := exec_run_of_own tag admitted hw hq ho
    exact ⟨fun h => full (promptFull_iff.mpr h),
      fun shorter fewer => room (promptFull_eq_false.mpr ⟨shorter, fewer⟩)⟩
  case undefined =>
    refine congrArg _ (takeCommand_refuse tag (admits_of_admitted _ admitted)
      (convertNowCommand_of_undefined ?_ _))
    exact undefined.imp (numberBelow_of_le (n := 32)) samplesOf_eq_none
  case convertNow =>
    obtain ⟨foreign, mine⟩ := exec_convertNow_of_defined tag admitted hc hn
    refine ⟨foreign, fun own => ?_⟩
    obtain ⟨full, room⟩ := mine own
    exact ⟨fun h => full (promptFull_iff.mpr h),
      fun shorter fewer => room (promptFull_eq_false.mpr ⟨shorter, fewer⟩)⟩

end Sys2Proof.Machine
end

section
/-! ## STOP and HALT (R46, R48, R74) -/

namespace Sys2Proof.Machine

open Sys2Proof.Safety

theorem stopCommand_of_own {x : Port} {w : Word} {id : SeqId} {q : Sequence} {s : State}
    (hw : w.toNat = id.val) (hq : sequence id s = some q) (ho : q.owner = x) :
    stopCommand x [w] s = if q.state = .defined then .refuse .wrongState
      else .answer .ok [] (stopSequence id q s) :=
  ownSequence_of_own _ hw hq ho

theorem exec_stop_of_enabled {x : Port} (tag : Tag) {w : Word} {id : SeqId} {q : Sequence}
    {s : State} (admitted : admitted x s = true) (hw : w.toNat = id.val)
    (hq : sequence id s = some q) (ho : q.owner = x) (enabled : q.state ≠ .defined) :
    exec (.stop x tag [w]) s
      = .next (answered x .stop tag [] (stopSequence id q (endFrame x s))) :=
  congrArg _ (takeCommand_answer tag (admits_of_admitted _ admitted)
    ((stopCommand_of_own (s := endFrame x s) hw hq ho).trans (if_neg enabled)))

theorem haltCommand_of_own {x : Port} {w : Word} {id : SeqId} {q : Sequence} {s : State}
    (hw : w.toNat = id.val) (hq : sequence id s = some q) (ho : q.owner = x) :
    haltCommand x [w] s = if q.state = .defined then .refuse .wrongState
      else .answer .ok [] (haltSequence x id q s) :=
  ownSequence_of_own _ hw hq ho

/-- The effect of HALT, from the scheduler that its withdrawal leaves (R48). -/
theorem haltSequence_of_withdraw {x : Port} {id : SeqId} {q : Sequence} {s : State} {v : Scheduler}
    (hv : withdraw id q.state s = s.setSch v) :
    haltSequence x id q s = appendNotice x (.seqHalted id q.pass) s.tmb.counter
      (abandonWhere (fun m => m.ofSequence id)
        (setSequence id (some ⟨q.owner, q.kind, q.steps, .defined, q.pass, q.index, 0, 0⟩)
          (s.setSch v))) := by
  unfold haltSequence
  dsimp only
  rw [hv]
  rfl

/-- An abandon order that names the measurement in flight (R30). -/
theorem abandonWhere_of_named {p : Measurement → Bool} {m : Measurement} {s : State}
    (hm : inFlight s = some m) (hp : p m = true) :
    abandonWhere p s
      = dispatch ((s.setCnv { s.cnv with state := .idle }).setSch { s.sch with view := .free }) := by
  unfold abandonWhere
  simp only [hm, hp, if_true]
  rfl

theorem abandonWhere_of_unnamed {p : Measurement → Bool} {s : State}
    (h : ∀ m, inFlight s = some m → p m = false) : abandonWhere p s = s := by
  unfold abandonWhere
  cases hm : inFlight s with
  | none => rfl
  | some m => simp only [h m hm, Bool.false_eq_true, if_false]

/-- Settles O28: STOP and the withdrawal of HALT by the state of the sequence, and the abandon order
by whether it names the measurement in flight. -/
theorem stopAndHalt : Obligations.StopAndHalt := by
  refine ⟨fun x tag w id q s admitted hw hq ho => ?stop,
    fun x tag w id q s admitted hw hq ho => ?halt, fun p s => ?abandon⟩
  case stop =>
    have stops := exec_stop_of_enabled tag admitted hw hq ho
    obtain ⟨owner, kind, steps, state, pass, index, restarts, misses⟩ := q
    cases state with
    | defined =>
      exact congrArg _ (takeCommand_refuse tag (admits_of_admitted _ admitted)
        ((stopCommand_of_own (s := endFrame x s) hw hq ho).trans (if_pos rfl)))
    | armed => exact stops nofun
    | pending => exact stops nofun
    | running => exact stops nofun
    | stopping => exact stops nofun
  case halt =>
    have judged := haltCommand_of_own (s := endFrame x s) hw hq ho
    refine ⟨fun defined => congrArg _ (takeCommand_refuse tag (admits_of_admitted _ admitted)
      (judged.trans (if_pos defined))), fun enabled v hv => ?_⟩
    have withdrawn : withdraw id q.state (endFrame x s) = (endFrame x s).setSch v := by
      rw [hv]
      cases q.state <;> rfl
    rw [if_neg enabled, haltSequence_of_withdraw withdrawn, ho] at judged
    exact congrArg _ (takeCommand_answer tag (admits_of_admitted _ admitted) judged)
  case abandon =>
    exact ⟨fun m hm hp => abandonWhere_of_named hm hp, abandonWhere_of_unnamed⟩

end Sys2Proof.Machine
end

section
/-! ## The last sample of a step (R38, R63, R69) -/

namespace Sys2Proof.Machine

/-! ### The judgement of an urgent pass (R69) -/

theorem judgePass_of_no_deadline {p : UrgentPass} (stamp : Time) (h : p.deadline = none) :
    judgePass p stamp = .onTime := by
  unfold judgePass
  rw [h]

theorem judgePass_of_deadline {p : UrgentPass} {d : Time} (stamp : Time) (h : p.deadline = some d) :
    judgePass p stamp = if (stamp - p.arrival).toNat ≤ (d - p.arrival).toNat then .onTime
      else .late := by
  unfold judgePass
  rw [h]
  rfl

theorem judgeUrgent_of_none {s : State} (stamp : Time) (ha : s.sch.activeUrgent = none) :
    judgeUrgent stamp s = s := by
  unfold judgeUrgent
  rw [ha]

theorem judgeUrgent_of_judged {p : UrgentPass} {s : State} (stamp : Time)
    (ha : s.sch.activeUrgent = some p) (hj : p.judgement ≠ .undecided) :
    judgeUrgent stamp s = s := by
  unfold judgeUrgent
  rw [ha]
  exact if_neg hj

/-- A pass not judged yet takes its judgement, and LATE tells the owner. -/
theorem judgeUrgent_of_undecided {p : UrgentPass} {s t : State} (stamp : Time)
    (ha : s.sch.activeUrgent = some p) (hj : p.judgement = .undecided)
    (ht : t = s.setSch { s.sch with
      activeUrgent := some { p with judgement := judgePass p stamp } }) :
    judgeUrgent stamp s
      = if judgePass p stamp = .late then raiseFlag p.owner .late t else t := by
  unfold judgeUrgent
  rw [ha, ht]
  exact if_pos hj

/-- A judgement changes the active urgent pass and, by a flag, the host ports. -/
theorem judgeUrgent_frame (stamp : Time) (s : State) : ∃ a h,
    judgeUrgent stamp s = (s.setSch { s.sch with activeUrgent := a }).setHost h := by
  cases ha : s.sch.activeUrgent with
  | none => exact ⟨s.sch.activeUrgent, s.host, judgeUrgent_of_none stamp ha⟩
  | some p =>
    by_cases hj : p.judgement = .undecided
    · rw [judgeUrgent_of_undecided stamp ha hj rfl]
      split
      · exact ⟨_, _, rfl⟩
      · exact ⟨some { p with judgement := judgePass p stamp }, s.host, rfl⟩
    · exact ⟨s.sch.activeUrgent, s.host, judgeUrgent_of_judged stamp ha hj⟩

theorem judgedFor_frame (o : Measured) (s : State) : ∃ a h,
    judgedFor o s = (s.setSch { s.sch with activeUrgent := a }).setHost h := by
  unfold judgedFor
  split
  · exact judgeUrgent_frame o.stamp s
  · exact ⟨s.sch.activeUrgent, s.host, rfl⟩

theorem passLate_iff {s : State} :
    passLate s = true ↔ ∃ p, s.sch.activeUrgent = some p ∧ p.judgement = .late := by
  unfold passLate
  cases s.sch.activeUrgent <;> simp

/-! ### The step report (R38) -/

theorem Sequence.isLast_iff {q : Sequence} {i : Nat} :
    q.isLast i = true ↔ q.steps.length ≤ i + 1 := decide_eq_true_iff

/-- A step report writes the sequence's new position and tells the owner of an end. -/
theorem stepCompleted_of_sequence {r : StepRef} {q : Sequence} {s : State}
    (h : sequence r.seq s = some q) :
    stepCompleted r s = if q.flagsEnd r.index = true
      then raiseFlag q.owner .sequence (setSequence r.seq (some (q.afterStep r.index)) s)
      else setSequence r.seq (some (q.afterStep r.index)) s := by
  unfold stepCompleted
  rw [h]

/-- Before the last step the position moves on, and nothing is flagged. -/
theorem Sequence.afterStep_of_not_last {q : Sequence} {i : Nat} (h : q.isLast i = false)
    (live : q.state = .running ∨ q.state = .stopping) :
    q.afterStep i = { q with index := i + 1, restarts := 0 } ∧ q.flagsEnd i = false := by
  unfold afterStep flagsEnd
  rcases live with state | state <;> simp [h, state]

/-- At the last step a CONTINUOUS sequence in RUNNING starts its next pass without a flag. -/
theorem Sequence.afterStep_of_continuous {q : Sequence} {i : Nat} (h : q.isLast i = true)
    (state : q.state = .running) (kind : q.kind = .continuous) :
    q.afterStep i = { q with pass := q.pass + 1, index := 0, restarts := 0 }
      ∧ q.flagsEnd i = false := by
  unfold afterStep flagsEnd
  simp [h, state, kind, startPass]

/-- At the last step any other sequence in RUNNING is ARMED again. -/
theorem Sequence.afterStep_of_requested {q : Sequence} {i : Nat} (h : q.isLast i = true)
    (state : q.state = .running) (kind : q.kind ≠ .continuous) :
    q.afterStep i = { q with state := .armed, index := 0, restarts := 0 }
      ∧ q.flagsEnd i = true := by
  unfold afterStep flagsEnd
  cases hk : q.kind with
  | triggered n d => simp [h, state]
  | keyed => simp [h, state]
  | continuous => exact absurd hk kind

/-- At the last step a sequence in STOPPING is DEFINED. -/
theorem Sequence.afterStep_of_stopping {q : Sequence} {i : Nat} (h : q.isLast i = true)
    (state : q.state = .stopping) :
    q.afterStep i = { q with state := .defined, index := 0, restarts := 0, misses := 0 }
      ∧ q.flagsEnd i = true := by
  unfold afterStep flagsEnd
  simp [h, state, toDefined]

/-! ### The outcome of a step -/

/-- The result unit takes the outcome of a step: the record unless the step is quiet, the snapshot
value, and the value handed to the monitors (R63, R90, R92). -/
theorem handOff_of_step {o : Measured} {k : StepRef} {q : Sequence} {st : SeqStep}
    {cls : WorkClass} {s recorded : State} (late : Bool) (hk : o.step = some k)
    (hq : sequence k.seq s = some q) (hst : q.steps[k.index]? = some st)
    (hc : serviceClass s = some cls)
    (hr : recorded = if st.quiet = true then s else appendRecord o.port
      (fun gap => .measurement (some ⟨k.seq, k.index, q.pass⟩) o.channel o.value o.stamp late
        o.clipped o.cfgChanged o.untrimmed (if cls = .background then q.restarts else 0) gap) s) :
    handOff o late s = evaluateMonitors o.channel o.value (recorded.setRes { recorded.res with
      snapshot := tset recorded.res.snapshot o.channel
        ⟨(tget s.res.snapshot o.channel).generation + 1,
         some ⟨o.value, o.stamp, o.port, some k.seq, o.clipped, o.untrimmed⟩⟩ }) := by
  have quiet : isQuiet o s = st.quiet := by simp [isQuiet, hk, hq, hst]
  have record : recordOf o late s = fun gap => .measurement (some ⟨k.seq, k.index, q.pass⟩)
      o.channel o.value o.stamp late o.clipped o.cfgChanged o.untrimmed
      (if cls = .background then q.restarts else 0) gap := by
    funext gap
    simp [recordOf, passRefOf, restartsOf, hk, hq, hc]
  have appended : (if isQuiet o s = true then s else appendRecord o.port (recordOf o late s) s)
      = recorded := by rw [quiet, record, hr]
  have kept : recorded.res.snapshot = s.res.snapshot := by
    rw [hr]
    split
    · rfl
    · exact appendRecord_snapshot ..
  unfold handOff
  dsimp only
  rw [appended, hk, ← kept]
  rfl

/-- A pass that has ended becomes absent in its class (R63). -/
theorem passUpkeep_some (cls : WorkClass) {ended : Bool} {p : Prop} [Decidable p]
    (h : ended = true ↔ p) (s : State) : passUpkeep (some cls) ended s = s.setSch { s.sch with
      activeUrgent := if cls = .urgent ∧ p then none else s.sch.activeUrgent
      activePrompt := if cls = .prompt ∧ p then none else s.sch.activePrompt } := by
  simp only [← h]
  cases ended <;> cases cls <;> rfl

/-- The scheduler takes the outcome of a step: judged, handed off, reported to the sequence manager,
the active pass ended at the last step, the service ended, and then a dispatch (R63). -/
theorem takeOutcome_of_step {o : Measured} {k : StepRef} {q : Sequence} {cls : WorkClass}
    {s t : State} {late : Bool} (hk : o.step = some k) (hq : sequence k.seq s = some q)
    (hc : serviceClass s = some cls)
    (hl : late = true ↔ cls = .urgent
      ∧ ∃ p, (judgedFor o s).sch.activeUrgent = some p ∧ p.judgement = .late)
    (ht : t = stepCompleted k (handOff o late (judgedFor o s))) :
    takeOutcome o s = dispatch (t.setSch { t.sch with
      view := .free
      activeUrgent := if cls = .urgent ∧ q.steps.length ≤ k.index + 1 then none
        else t.sch.activeUrgent
      activePrompt := if cls = .prompt ∧ q.steps.length ≤ k.index + 1 then none
        else t.sch.activePrompt }) := by
  have entry : sequence k.seq (judgedFor o s) = some q := by
    rw [← hq, sequence, judgedFor_seq]
    rfl
  have ends : endsPass o (judgedFor o s) = q.isLast k.index := by simp [endsPass, hk, entry]
  have judgedLate : (serviceClass s == some .urgent && passLate (judgedFor o s)) = late := by
    rw [Bool.eq_iff_iff, Bool.and_eq_true, passLate_iff, hl, hc]
    simp
  have reported : concluded o s = t := by
    rw [concluded, judgedLate, hk, ht]
    rfl
  rw [takeOutcome_eq, reported, hc, passUpkeep_some cls (ends ▸ Sequence.isLast_iff)]
  rfl

/-- Settles O34: the outcome of the last sample is taken in the order of R63; the step report goes by
the position and the state, the judgement by the deadline. -/
theorem passProgress : Obligations.PassProgress := by
  refine ⟨?completion, fun r q s hq => ?report, fun stamp p s ha => ?judgement⟩
  case completion =>
    rintro raw w s m t r k q st v clip bad late sampling uncut last step hq hst busy hv hw rfl rfl
      judged recorded updated reported hj hl hrec hupd hrep
    have outcome := outcomeOf_addSample (t := t) hv hw
    have completed := sampleCompletion_of_last (raw := raw) sampling uncut last
    generalize outcomeOf (addSample raw m) t s.cnv = o at outcome completed
    have cls : serviceClass (converterIdle s) = some r.cls := serviceClass_of_busy busy
    have judging : judgedFor o (converterIdle s) = judged := by
      unfold judgedFor
      rw [cls, hj, outcome]
      simp only [Option.some.injEq]
      rfl
    obtain ⟨a, h, frame⟩ := judgedFor_frame o (converterIdle s)
    rw [judging] at frame
    have handed : handOff o late judged = evaluateMonitors m.channel w updated := by
      rw [hupd, outcome]
      refine (handOff_of_step (k := k) (q := q) (cls := r.cls) late step ?_ hst ?_ hrec).trans ?_
      · rw [frame]
        exact hq
      · rw [frame]
        exact cls
      · rw [frame]
        rfl
    refine congrArg _ (completed.trans (takeOutcome_of_step (late := late) ?_ hq cls ?_ ?_))
    · rw [outcome]
      exact step
    · rw [judging]
      exact hl
    · rw [judging, handed, hrep]
  case report =>
    have completed := stepCompleted_of_sequence hq
    refine ⟨fun more live => ?_, fun last => ?_⟩
    · obtain ⟨after, flag⟩ := Sequence.afterStep_of_not_last
        (decide_eq_false (Nat.not_le.mpr more)) live
      rw [completed, after, flag, if_neg Bool.false_ne_true]
    · have isLast := Sequence.isLast_iff.mpr last
      refine ⟨fun state kind => ?_, fun state kind => ?_, fun state => ?_⟩
      · obtain ⟨after, flag⟩ := Sequence.afterStep_of_continuous isLast state kind
        rw [completed, after, flag, if_neg Bool.false_ne_true]
      · obtain ⟨after, flag⟩ := Sequence.afterStep_of_requested isLast state kind
        rw [completed, after, flag, if_pos rfl]
      · obtain ⟨after, flag⟩ := Sequence.afterStep_of_stopping isLast state
        rw [completed, after, flag, if_pos rfl]
  case judgement =>
    refine ⟨judgeUrgent_of_judged stamp ha, fun undecided => ?_⟩
    have judged := judgeUrgent_of_undecided stamp ha undecided rfl
    refine ⟨fun unlimited => ?_, fun d deadline => ⟨fun inTime => ?_, fun exceeded => ?_⟩⟩
    · rw [judged, judgePass_of_no_deadline stamp unlimited]
      rfl
    · rw [judged, judgePass_of_deadline stamp deadline, if_pos inTime]
      rfl
    · rw [judged, judgePass_of_deadline stamp deadline, if_neg (Nat.not_le.mpr exceeded)]
      rfl

end Sys2Proof.Machine
end

section
/-! ## Background rotation (R59, R61, R62, R66) -/

namespace Sys2Proof.Machine

/-! ### Runnable sequences -/

/-- The candidates of the rotation (R61). -/
theorem Sequence.candidate_iff {q : Sequence} : q.candidate = true
    ↔ q.kind = .continuous ∧ (q.state = .running ∨ q.state = .stopping) := by
  simp [Sequence.candidate]

/-- A runnable sequence: a candidate of the port with room for the record of its step (R62). -/
theorem runnable_iff {x : Port} {id : SeqId} {s : State} : runnable x id s = true ↔
    ∃ q st, sequence id s = some q ∧ q.owner = x ∧ q.candidate = true
      ∧ q.steps[q.index]? = some st ∧ (st.quiet = true ∨ queueCount x s < 64) := by
  unfold runnable Sequence.current
  cases hq : sequence id s with
  | none => simp
  | some q =>
    cases hst : q.steps[q.index]? with
    | none => simp [hst]
    | some st =>
      simp only [Option.some.injEq, exists_and_left, exists_eq_left', hst, and_assoc,
        Bool.and_eq_true, Bool.or_eq_true, beq_iff_eq, decide_eq_true_eq]
      exact Iff.rfl

/-! ### The sequence whose turn it is -/

theorem allSeqs_ascending : allSeqs.Pairwise (· < ·) := by decide

/-- The first sequence id found is the lowest one. -/
theorem find?_allSeqs_of_least {p : SeqId → Bool} {id : SeqId} (found : p id = true)
    (least : ∀ j, p j = true → id ≤ j) : allSeqs.find? p = some id := by
  obtain ⟨before, after, parts⟩ := List.append_of_mem (mem_allSeqs id)
  refine List.find?_eq_some_iff_append.mpr ⟨found, before, after, parts, fun j hj => ?_⟩
  obtain ⟨-, -, ascending⟩ := List.pairwise_append.mp (parts ▸ allSeqs_ascending)
  have below : j < id := ascending j hj id List.mem_cons_self
  have passed : p j ≠ true := fun hp => absurd (least j hp) (not_le.mpr below)
  simpa using passed

/-- The pick looks above the last served id, then anywhere (R61). -/
theorem rotationPick_eq (x : Port) (s : State) : rotationPick x s
    = ((allSeqs.find? fun id => runnable x id s && decide (s.sch.lastServed.get x < id)).or
      (allSeqs.find? fun id => runnable x id s)) := by
  unfold rotationPick
  simp only [List.find?_filter, List.head?_filter, Bool.decide_and, Bool.decide_eq_true]
  cases allSeqs.find? fun id => runnable x id s && decide (s.sch.lastServed.get x < id) <;> rfl

theorem rotationPick_of_above {x : Port} {id : SeqId} {s : State} (ready : runnable x id s = true)
    (above : s.sch.lastServed.get x < id)
    (least : ∀ j, runnable x j s = true → s.sch.lastServed.get x < j → id ≤ j) :
    rotationPick x s = some id := by
  have lowest : (allSeqs.find? fun j =>
      runnable x j s && decide (s.sch.lastServed.get x < j)) = some id := by
    refine find?_allSeqs_of_least (by simp [ready, above]) fun j hj => ?_
    rw [Bool.and_eq_true, decide_eq_true_eq] at hj
    obtain ⟨ready, above⟩ := hj
    exact least j ready above
  rw [rotationPick_eq, lowest, Option.some_or]

theorem rotationPick_of_none_above {x : Port} {id : SeqId} {s : State}
    (ready : runnable x id s = true)
    (none_above : ∀ j, runnable x j s = true → j ≤ s.sch.lastServed.get x)
    (least : ∀ j, runnable x j s = true → id ≤ j) : rotationPick x s = some id := by
  have nothing : (allSeqs.find? fun j =>
      runnable x j s && decide (s.sch.lastServed.get x < j)) = none :=
    List.find?_eq_none.mpr fun j _ => by simpa using none_above j
  rw [rotationPick_eq, nothing, Option.none_or, find?_allSeqs_of_least ready least]

/-! ### The turn -/

/-- The other port is served only when the pointer's port has nothing runnable (R61). -/
theorem rotate_of_pick {x : Port} {id : SeqId} {s : State}
    (turn : x = s.sch.nextPort
      ∨ (x = otherPort s.sch.nextPort ∧ ∀ j, runnable s.sch.nextPort j s = false))
    (pick : rotationPick x s = some id) : rotate s = serveBackground x id s := by
  unfold rotate
  rcases turn with rfl | ⟨rfl, nothing⟩
  · rw [pick]
  · rw [rotationPick_of_none_runnable nothing, pick]

/-- A turn moves the pointer and the last served id and starts the step, protected at restart count
3 (R61, R66). -/
theorem serveBackground_of_step (x : Port) {id : SeqId} {s : State} {q : Sequence} {st : SeqStep}
    (hq : sequence id s = some q) (hst : q.steps[q.index]? = some st) :
    serveBackground x id s
      = startMeasurement .background q.owner (.step ⟨id, q.index⟩) (some ⟨id, q.index⟩) st.channel
        st.samples (q.restarts == 3) (s.setSch { s.sch with
          lastServed := s.sch.lastServed.set x id, nextPort := otherPort x }) :=
  startSequenceStep_of_step .background (s := s.setSch { s.sch with
    lastServed := s.sch.lastServed.set x id, nextPort := otherPort x }) hq hst

/-- Settles O30: the pick is the lowest id above the last served one or the lowest of all, and its
turn is one start order. -/
theorem backgroundRotation : Obligations.BackgroundRotation := by
  refine ⟨fun x id s => ?runnable,
    fun s x id q st ha hu hp hr idle turn ready hq hst order => ?turn⟩
  case runnable =>
    simp only [runnable_iff, Sequence.candidate_iff, and_assoc]
  case turn =>
    have pick : rotationPick x s = some id := by
      rcases order with ⟨above, least⟩ | ⟨none_above, least⟩
      · exact rotationPick_of_above ready above least
      · exact rotationPick_of_none_above ready none_above least
    have cnv := converterStart_cnv_congr q.owner (some ⟨id, q.index⟩) st.channel st.samples (s := s)
      (t := s.setSch { s.sch with
        lastServed := s.sch.lastServed.set x id, nextPort := otherPort x }) rfl rfl rfl
    rw [dispatch_of_no_request ha hu hp hr, rotate_of_pick turn pick,
      serveBackground_of_step x hq hst, startMeasurement_eq, startMeasurement_eq, cnv]
    exact ⟨rfl, rfl, rfl, _, inFlight_of_started idle rfl, rfl, rfl, rfl, rfl⟩

end Sys2Proof.Machine
end

section
/-! ## Trigger arrivals (R84, R85) -/

namespace Sys2Proof.Machine

/-- The TRIGGERS_MISSED notice is sent when misses are held (R85). -/
theorem reportMisses_of_zero {q : Sequence} (h : q.misses = 0) (id : SeqId) (t : Time) (s : State) :
    reportMisses id q t s = s := if_neg (by omega)

theorem reportMisses_of_pos {q : Sequence} (h : 0 < q.misses) (id : SeqId) (t : Time) (s : State) :
    reportMisses id q t s = appendNotice q.owner (.triggersMissed id q.pass q.misses) t s := if_pos h

theorem triggerArrival_of_unbound {n : SourceId} {s : State} (t : Time)
    (h : tget s.trg.bound n = none) : triggerArrival n t s = s := by
  unfold triggerArrival
  rw [h]

/-- In DEFINED and STOPPING an arrival is dropped (R84). -/
theorem triggerArrival_of_dropping {n : SourceId} {id : SeqId} {q : Sequence} {s : State} (t : Time)
    (hb : tget s.trg.bound n = some id) (hq : sequence id s = some q)
    (h : q.state = .defined ∨ q.state = .stopping) : triggerArrival n t s = s := by
  unfold triggerArrival
  rcases h with h | h <;> simp only [hb, hq, h]

/-- In PENDING and RUNNING an arrival is counted as missed (R84). -/
theorem triggerArrival_of_busy {n : SourceId} {id : SeqId} {q : Sequence} {s : State} (t : Time)
    (hb : tget s.trg.bound n = some id) (hq : sequence id s = some q)
    (h : q.state = .pending ∨ q.state = .running) :
    triggerArrival n t s = setSequence id (some q.countMiss) s := by
  unfold triggerArrival
  rcases h with h | h <;> simp only [hb, hq, h]

/-- In ARMED an arrival brings the notice, PENDING and the urgent request, in that order (R84). -/
theorem triggerArrival_of_armed {n : SourceId} {id : SeqId} {q : Sequence} {s : State} (t : Time)
    (hb : tget s.trg.bound n = some id) (hq : sequence id s = some q) (h : q.state = .armed) :
    triggerArrival n t s = urgentRequest id (budgetOf q.kind) t
      (setSequence id (some { q with state := .pending, misses := 0 })
        (reportMisses id q t s)) := by
  unfold triggerArrival
  simp only [hb, hq, h]

/-- Settles O37: the arrival at each state of the bound sequence. -/
theorem triggerArrivals : Obligations.TriggerArrivals := by
  refine fun n t s => ⟨triggerArrival_of_unbound t, fun id q hb hq =>
    ⟨triggerArrival_of_dropping t hb hq, triggerArrival_of_busy t hb hq,
      fun armed b budget => ?armed⟩⟩
  have same : b = budgetOf q.kind := by rw [budget]; cases q.kind <;> rfl
  rw [triggerArrival_of_armed t hb hq armed, same]
  refine ⟨fun zero => ?_, fun held => ?_⟩
  · rw [reportMisses_of_zero zero, ← zero]
  · rw [reportMisses_of_pos held]

end Sys2Proof.Machine
end

section
/-! ## READ_RESULTS (R62, R96, R97) -/

namespace Sys2Proof.Machine

open Sys2Proof.Safety

theorem passesSession_readResults {v : Session} (h : v ≠ .closed) :
    passesSession v .readResults = true := by
  cases v with
  | opened l => rfl
  | lapsed => rfl
  | closed => exact absurd rfl h

open BitVec in
/-- The fields of the summary word lie where Table 11-4 puts them. -/
theorem summaryLayout_fields (held : BitVec 8) (copied : BitVec 4) (w : BitVec (8 + 4 + 4))
    (h : w = held ++ (0 : BitVec 4) ++ copied) :
    w.extractLsb' 8 8 = held ∧ w.extractLsb' 4 4 = 0 ∧ w.extractLsb' 0 4 = copied := by
  subst h
  simp [-Nat.reduceAdd, extractLsb'_append_eq_of_le, extractLsb'_append_eq_of_add_le]

theorem readResultsCommand_of_range (x : Port) {k n : Word} (s : State)
    (h : ¬ (8 < k.toNat ∨ n.toNat < 1 ∨ 8 < n.toNat)) :
    readResultsCommand x [k, n] s = if (resultQueue x s).delivered < k.toNat then .refuse .badAck
      else readResults x k.toNat n.toNat s := if_neg h

/-- The effect of READ_RESULTS, with the records and the words counted (R62, R97). -/
theorem readResults_eq {x : Port} {k n : Nat} {s u : State}
    (h : u = setQueue x ⟨(resultQueue x s).records.drop k,
      min n ((resultQueue x s).records.length - k), (resultQueue x s).gap,
      (resultQueue x s).watermark⟩ s) :
    readResults x k n s = .answer .ok
      ((BitVec.ofNat 8 ((resultQueue x s).records.length - k) ++ (0 : BitVec 4)
          ++ BitVec.ofNat 4 (min n ((resultQueue x s).records.length - k)))
        :: (((resultQueue x s).records.drop k).take n).flatMap recordWords)
      (if 64 ≤ (resultQueue x s).records.length ∧ (resultQueue x s).records.length - k < 64
        then dispatchIfFree u else u) := by
  subst h
  unfold readResults readPayload reportFall
  simp only [List.length_take, List.length_drop]
  rfl

end Sys2Proof.Machine

namespace Sys2Proof

open Machine Safety

/-- Settles O39: the refusals in their order, and the answer with its summary word read back. -/
theorem readResults : Obligations.ReadResults := by
  rintro x tag k n s takes started live q rfl
  have admits : Admits x .readResults s := ⟨takes, started, passesSession_readResults live⟩
  refine ⟨fun outside => congrArg _ (takeCommand_refuse tag admits (if_pos ?outside)),
    fun hk h1 h8 => ?inside⟩
  case outside =>
    rcases outside with h | rfl | h
    · exact .inl h
    · exact .inr (.inl Nat.zero_lt_one)
    · exact .inr (.inr h)
  case inside =>
    have judged := readResultsCommand_of_range x (k := k) (n := n) (endFrame x s) (by omega)
    refine ⟨fun ahead => congrArg _ (takeCommand_refuse tag admits (judged.trans (if_pos ahead))),
      fun acked => ?_⟩
    obtain ⟨count, unused, copied⟩ := summaryLayout_fields _ _ _ rfl
    refine ⟨_, count, unused, copied, ?_⟩
    intro u hu
    exact congrArg _ (takeCommand_answer tag admits
      ((judged.trans (if_neg (Nat.not_lt.mpr acked))).trans (readResults_eq hu)))

end Sys2Proof
end

section
/-! ## Settings of the trigger sources (R79, R81 to R83) -/

namespace Sys2Proof.Machine

open Sys2Proof.Safety

/-! ### Sources, edges and periods in argument words -/

theorem edgeOf_of_lt {e : Word} (h : 2 < e.toNat) : edgeOf e = none := by
  have ne (k : Word) (hk : k.toNat ≤ 2) : e ≠ k := by
    rintro rfl
    omega
  unfold edgeOf
  rw [if_neg (ne 0 (by decide)), if_neg (ne 1 (by decide)), if_neg (ne 2 (by decide))]

theorem toNat_sub_four {w : Word} (h : 4 ≤ w.toNat) : (w - 4).toNat = w.toNat - 4 :=
  BitVec.toNat_sub_of_le (BitVec.le_def.mpr h)

theorem timerOf_of_toNat {w : Word} {n : Fin 4} (h : w.toNat = n.val + 4) :
    timerOf w = some n := by
  have least : 4 ≤ w.toNat := h ▸ Nat.le_add_left ..
  unfold timerOf
  rw [if_pos least]
  exact numberBelow_of_toNat (by rw [toNat_sub_four least, h, Nat.add_sub_cancel])

theorem timerOf_of_outside {w : Word} (h : w.toNat < 4 ∨ 7 < w.toNat) : timerOf w = none := by
  unfold timerOf
  split
  · next least => exact numberBelow_of_le (by rw [toNat_sub_four least]; omega)
  · rfl

/-- A period's words count 65,536 microseconds and one microsecond each (R171). -/
theorem toNat_periodWords (hi lo : Word) :
    (hi ++ lo : Time).toNat = hi.toNat * 65536 + lo.toNat := by
  rw [BitVec.toNat_append, ← Nat.shiftLeft_add_eq_or_of_lt lo.isLt, Nat.shiftLeft_eq]

theorem periodOf_of_range {hi lo : Word} (least : 10 ≤ hi.toNat * 65536 + lo.toNat)
    (most : hi.toNat * 65536 + lo.toNat ≤ 1000000) :
    periodOf hi lo = some (BitVec.ofNat 32 (hi.toNat * 65536 + lo.toNat)) := by
  rw [← toNat_periodWords] at least most ⊢
  rw [BitVec.ofNat_toNat, BitVec.setWidth_eq]
  exact if_pos ⟨least, most⟩

theorem periodOf_of_outside {hi lo : Word}
    (h : hi.toNat * 65536 + lo.toNat < 10 ∨ 1000000 < hi.toNat * 65536 + lo.toNat) :
    periodOf hi lo = none := by
  rw [← toNat_periodWords] at h
  exact if_neg (by omega)

/-! ### SET_TRIGGER and STOP_CADENCE -/

/-- A command whose last check decides between OK and one refusal. -/
theorem takeCommand_checked {x : Port} {c : HostCommand} {s t : State} {body : State → Reply}
    {payload : List Word} {st : Status} {p : Prop} [Decidable p] (tag : Tag) (h : Admits x c s)
    (hb : body (endFrame x s) = if p then .answer .ok payload t else .refuse st) :
    takeCommand x c tag body s
      = if p then answered x c tag payload t else refused x st tag s := by
  split at hb
  · next passes => rw [if_pos passes, takeCommand_answer tag h hb]
  · next fails => rw [if_neg fails, takeCommand_refuse tag h hb]

theorem setTriggerCommand_of_undefined {x : Port} {w e : Word}
    (h : numberBelow 4 w = none ∨ edgeOf e = none) (s : State) :
    setTriggerCommand x [w, e] s = .refuse .badArgument := by
  unfold setTriggerCommand
  dsimp only
  split
  · next hn he =>
    rcases h with h | h
    · cases hn.symm.trans h
    · cases he.symm.trans h
  · rfl

theorem setTriggerCommand_of_line {x : Port} {w e : Word} {n : Fin 4} {edge : EdgeSetting}
    (hw : w.toNat = n.val) (he : edgeOf e = some edge) (s : State) :
    setTriggerCommand x [w, e] s = if tget s.trg.owner (lineSource n) = some x then
        .answer .ok [] (s.setTrg { s.trg with
          line := tset s.trg.line n ⟨edge, (tget s.trg.line n).level⟩ })
      else .refuse .notOwner := by
  unfold setTriggerCommand
  simp only [numberBelow_of_toNat hw, he, ne_eq, ite_not]

theorem stopCadenceCommand_of_no_timer {x : Port} {w : Word} (h : timerOf w = none) (s : State) :
    stopCadenceCommand x [w] s = .refuse .badArgument := by
  unfold stopCadenceCommand
  simp only [h]

theorem stopCadenceCommand_of_timer {x : Port} {w : Word} {n : Fin 4} (h : timerOf w = some n)
    (s : State) :
    stopCadenceCommand x [w] s = if tget s.trg.owner (timerSource n) = some x then
        .answer .ok [] (setTimer n ⟨(tget s.trg.timer n).period, .stopped⟩ s)
      else .refuse .notOwner := by
  unfold stopCadenceCommand
  simp only [h, ne_eq, ite_not]

/-! ### SET_CADENCE and START_CADENCE -/

/-- The reply to a command that replaces a timer of the sender's own while it is STOPPED. -/
def replaceStopped (x : Port) (n : Fin 4) (t : CadenceTimer) (s : State) : Reply :=
  if tget s.trg.owner (timerSource n) ≠ some x then .refuse .notOwner
  else match (tget s.trg.timer n).run with
    | .running _ => .refuse .wrongState
    | .stopped => .answer .ok [] (setTimer n t s)

theorem setCadenceCommand_of_undefined {x : Port} {w hi lo : Word}
    (h : timerOf w = none ∨ periodOf hi lo = none) (s : State) :
    setCadenceCommand x [w, hi, lo] s = .refuse .badArgument := by
  unfold setCadenceCommand
  dsimp only
  split
  · next hn hp =>
    rcases h with h | h
    · cases hn.symm.trans h
    · cases hp.symm.trans h
  · rfl

theorem setCadenceCommand_of_timer {x : Port} {w hi lo : Word} {n : Fin 4} {p : Time}
    (hw : timerOf w = some n) (hp : periodOf hi lo = some p) (s : State) :
    setCadenceCommand x [w, hi, lo] s
      = replaceStopped x n ⟨p, (tget s.trg.timer n).run⟩ s := by
  unfold setCadenceCommand
  simp only [hw, hp]
  rfl

theorem startCadenceCommand_of_no_timer {x : Port} {w : Word} (h : timerOf w = none) (s : State) :
    startCadenceCommand x [w] s = .refuse .badArgument := by
  unfold startCadenceCommand
  simp only [h]

theorem startCadenceCommand_of_timer {x : Port} {w : Word} {n : Fin 4} (h : timerOf w = some n)
    (s : State) :
    startCadenceCommand x [w] s = replaceStopped x n ⟨(tget s.trg.timer n).period,
      .running (s.tmb.counter + (tget s.trg.timer n).period)⟩ s := by
  unfold startCadenceCommand
  simp only [h]
  rfl

/-- The owner is checked before the cadence state (R81, R82). -/
theorem takeCommand_replaceStopped {x : Port} {c : HostCommand} {n : Fin 4} {t : CadenceTimer}
    {s : State} {body : State → Reply} (tag : Tag) (h : Admits x c s)
    (hb : body (endFrame x s) = replaceStopped x n t (endFrame x s)) :
    (tget s.trg.owner (timerSource n) ≠ some x →
      takeCommand x c tag body s = refused x .notOwner tag s)
    ∧ (tget s.trg.owner (timerSource n) = some x →
      (∀ d, (tget s.trg.timer n).run = .running d →
        takeCommand x c tag body s = refused x .wrongState tag s)
      ∧ ((tget s.trg.timer n).run = .stopped →
        takeCommand x c tag body s = answered x c tag [] (setTimer n t (endFrame x s)))) := by
  refine ⟨fun foreign => takeCommand_refuse tag h (hb.trans (if_pos foreign)), fun own => ?_⟩
  have checked := hb.trans (if_neg (not_not_intro own))
  simp only [endFrame_trg] at checked
  refine ⟨fun d running => takeCommand_refuse tag h ?_, fun stopped => takeCommand_answer tag h ?_⟩
  · rw [checked, running]
  · rw [checked, stopped]

/-- Settles O35: each command by what its arguments name, then by owner and cadence state. -/
theorem triggerSettings : Obligations.TriggerSettings := by
  refine ⟨fun x tag w e n s admitted => ?anyRun, fun x tag w hi lo n s admitted => ?whileStopped⟩
  case anyRun =>
    have admits c : Admits x c s := admits_of_admitted c admitted
    refine ⟨fun undefined => ?_, fun outside => ?_, fun line edge he => ?_, fun timer => ?_⟩
    · exact congrArg _ (takeCommand_refuse tag (admits _) (setTriggerCommand_of_undefined
        (undefined.imp numberBelow_of_le edgeOf_of_lt) _))
    · exact congrArg _ (takeCommand_refuse tag (admits _) (stopCadenceCommand_of_no_timer
        (timerOf_of_outside outside) _))
    · exact congrArg _ (takeCommand_checked tag (admits _) (setTriggerCommand_of_line line he _))
    · exact congrArg _ (takeCommand_checked tag (admits _) (stopCadenceCommand_of_timer
        (timerOf_of_toNat timer) _))
  case whileStopped =>
    have admits c : Admits x c s := admits_of_admitted c admitted
    refine ⟨fun undefined => ?_, fun outside => ?_, fun timer least most => ?_⟩
    · exact congrArg _ (takeCommand_refuse tag (admits _) (setCadenceCommand_of_undefined
        ((or_assoc.mpr undefined).imp timerOf_of_outside periodOf_of_outside) _))
    · exact congrArg _ (takeCommand_refuse tag (admits _) (startCadenceCommand_of_no_timer
        (timerOf_of_outside outside) _))
    · obtain ⟨setForeign, setOwn⟩ := takeCommand_replaceStopped tag (admits .setCadence)
        (setCadenceCommand_of_timer (timerOf_of_toNat timer) (periodOf_of_range least most) _)
      obtain ⟨startForeign, startOwn⟩ := takeCommand_replaceStopped tag (admits .startCadence)
        (startCadenceCommand_of_timer (timerOf_of_toNat timer) _)
      refine ⟨fun foreign => ⟨congrArg _ (setForeign foreign), congrArg _ (startForeign foreign)⟩,
        fun own => ?_⟩
      obtain ⟨setRunning, setStopped⟩ := setOwn own
      obtain ⟨startRunning, startStopped⟩ := startOwn own
      refine ⟨fun d running =>
          ⟨congrArg _ (setRunning d running), congrArg _ (startRunning d running)⟩,
        fun stopped => ⟨congrArg _ ((setStopped stopped).trans ?_),
          congrArg _ (startStopped stopped)⟩⟩
      rw [endFrame_trg, stopped]
      rfl

end Sys2Proof.Machine
end

section
/-! ## Transitions of the trigger lines and cadence expiries (R78, R80) -/

namespace Sys2Proof.Machine

theorem isActiveEdge_iff {edge : EdgeSetting} {l : Level} : isActiveEdge edge l = true
    ↔ edge = .both ∨ (edge = .rising ∧ l = .high) ∨ (edge = .falling ∧ l = .low) := by
  cases edge <;> cases l <;> simp [isActiveEdge]

/-- A transition outside a reset, at a level other than the reference level (R78). -/
theorem lineTransition_of_ne {n : Fin 4} {l : Level} {s : State} (released : s.resetActive = false)
    (moved : (tget s.trg.line n).level ≠ l) :
    lineTransition n l s
      = if tget s.trg.owner (lineSource n) ≠ none ∧ isActiveEdge (tget s.trg.line n).edge l = true
        then triggerArrival (lineSource n) s.tmb.counter (s.setTrg { s.trg with
          line := tset s.trg.line n ⟨(tget s.trg.line n).edge, l⟩ })
        else s.setTrg { s.trg with line := tset s.trg.line n ⟨(tget s.trg.line n).edge, l⟩ } := by
  simp [lineTransition, released, moved, Option.isSome_iff_ne_none]

theorem cadenceExpiry_of_running {n : Fin 4} {due : Time} {s : State}
    (h : (tget s.trg.timer n).run = .running due) :
    cadenceExpiry n s = triggerArrival (timerSource n) due (setTimer n
      ⟨(tget s.trg.timer n).period, .running (due + (tget s.trg.timer n).period)⟩ s) := by
  unfold cadenceExpiry
  simp only [h]
  rfl

/-- Settles O36: a transition by owner and edge, and the expiry of a RUNNING timer. -/
theorem linesAndCadences : Obligations.LinesAndCadences := by
  refine ⟨fun n l s released moved u moveLevel active activeIff => ?_, fun n due s running =>
    congrArg _ (cadenceExpiry_of_running running)⟩
  subst moveLevel
  have transition := lineTransition_of_ne released moved
  have edgeIff := isActiveEdge_iff.trans activeIff.symm
  refine ⟨fun idle => congrArg _ (transition.trans (if_neg ?_)), fun owned edge =>
    congrArg _ (transition.trans (if_pos ⟨owned, edgeIff.mpr edge⟩))⟩
  rintro ⟨owned, edge⟩
  exact idle.elim owned (absurd (edgeIff.mp edge))

end Sys2Proof.Machine
end

section
/-! ## Appends, FLUSH, MARK and SET_WATERMARK (R95, R99, R101, R102) -/

namespace Sys2Proof.Machine

open Sys2Proof.Safety

/-- Settles O38: the record and the flag that `appendRecord_eq` gives, below and at 64 records. -/
theorem append : Obligations.Append := by
  rintro x mk s q rfl
  rw [appendRecord_eq, ResultQueue.appendFlag_eq]
  refine ⟨fun room reaches => ?_, fun room misses => ?_, fun full => ?_⟩
  · rw [if_neg (Nat.not_le.mpr room), if_pos reaches, ResultQueue.append_of_lt mk room]
    rfl
  · rw [if_neg (Nat.not_le.mpr room), if_neg misses, ResultQueue.append_of_lt mk room]
    rfl
  · rw [if_pos full, ResultQueue.append_of_le mk full]
    rfl

/-- The session check treats FLUSH as READ_RESULTS (R133). -/
theorem passesSession_flush (v : Session) :
    passesSession v .flush = passesSession v .readResults := by cases v <;> rfl

/-- An emptied queue has fallen below 64 if it was full before (R62, R99). -/
theorem reportFall_zero (before : Nat) (s : State) :
    reportFall before 0 s = if 64 ≤ before then dispatchIfFree s else s := by
  simp [reportFall, Config.queueCapacity]

/-- The effect of FLUSH (R99). -/
theorem flushCommand_eq (x : Port) (s : State) {u : State}
    (h : u = setQueue x ⟨[], 0, 0, (resultQueue x s).watermark⟩ s) :
    flushCommand x [] s = .answer .ok [(0 : BitVec 8) ++ BitVec.ofNat 8 (resultQueue x s).gap]
      (if 64 ≤ queueCount x s then dispatchIfFree u else u) := by
  rw [h, ← reportFall_zero]
  rfl

/-- Settles O40: the session check of R133, then the effect of FLUSH. -/
theorem flush : Obligations.Flush := by
  refine fun x tag s takes started => ⟨fun closed => ?_, fun live u emptied => ?_⟩
  · exact congrArg _ (takeCommand_noSession .flush tag _ takes started (by rw [closed]; rfl))
  · exact congrArg _ (takeCommand_answer tag
      ⟨takes, started, (passesSession_flush _).trans (passesSession_readResults live)⟩
      (flushCommand_eq x (endFrame x s) emptied))

/-- MARK joins the queue below 64 records (R101). -/
theorem markCommand_eq (x : Port) (v : Word) (s : State) :
    markCommand x [v] s = if queueCount x s < 64 then
        .answer .ok [] (appendRecord x (fun gap => .notice (.mark v) s.tmb.counter gap) s)
      else .refuse .full := rfl

/-- SET_WATERMARK in range writes the watermark and compares it with the count (R102). -/
theorem setWatermarkCommand_eq (x : Port) (w : Word) (s : State) {q : ResultQueue} {u : State}
    (hq : q = resultQueue x s) (hu : u = setQueue x ⟨q.records, q.delivered, q.gap, w.toNat⟩ s) :
    setWatermarkCommand x [w] s = if 1 ≤ w.toNat ∧ w.toNat ≤ 64 then
        .answer .ok [] (if w.toNat ≤ queueCount x s then raiseFlag x .results u else u)
      else .refuse .badArgument := by
  rw [hu, hq]
  rfl

/-- Settles O41: each command by its session check and then by its one check of its own. -/
theorem markAndWatermark : Obligations.MarkAndWatermark := by
  refine ⟨fun x tag v s takes started => ⟨fun closed => ?_, fun opened => ?mark⟩,
    fun x tag w s takes started => ⟨fun closed => ?_, fun opened q hq => ?watermark⟩⟩
  · exact congrArg _ (takeCommand_closed tag _ takes started closed rfl (by decide) (by decide))
  case mark =>
    have judged := takeCommand_checked tag (admits_of_open .mark takes started opened)
      (markCommand_eq x v (endFrame x s))
    exact ⟨fun full => congrArg _ (judged.trans (if_neg (Nat.not_lt.mpr full))),
      fun room => congrArg _ (judged.trans (if_pos room))⟩
  · exact congrArg _ (takeCommand_closed tag _ takes started closed rfl (by decide) (by decide))
  case watermark =>
    have judged {u : State} hu := takeCommand_checked tag
      (admits_of_open .setWatermark takes started opened)
      (setWatermarkCommand_eq x w (endFrame x s) (u := u) hq hu)
    refine ⟨fun outside => congrArg _ ((judged rfl).trans (if_neg ?_)),
      fun least most u hu => congrArg _ ((judged hu).trans (if_pos ⟨least, most⟩))⟩
    rcases outside with rfl | high
    · exact fun ⟨least, _⟩ => absurd least (by decide)
    · exact fun ⟨_, most⟩ => Nat.not_lt.mpr most high

end Sys2Proof.Machine
end

section
/-! ## Which monitors a value evaluates, and the flags and causes it adds (R106, R113, R114, R120)

The flags are raised in a fold over the monitors that enter VIOLATED. A second MONITOR flag at one
port changes nothing, so the fold comes to at most one flag for each port. -/

namespace Sys2Proof.Machine

open Sys2Proof.Safety

/-! ### Flags of a port -/

/-- A host port with a flag set and ALERT re-evaluated (R165, R169). -/
def HostPort.raise (f : Flag) (p : HostPort) : HostPort :=
  { p with flags := p.flags ||| flagBit f, alert := alertActive (p.flags ||| flagBit f) p.mask }

theorem HostPort.raise_raise (f : Flag) (p : HostPort) : (p.raise f).raise f = p.raise f := by
  simp [raise, BitVec.or_assoc]

theorem hostPort_raiseFlag (x y : Port) (f : Flag) (s : State) :
    hostPort y (raiseFlag x f s) = if y = x then (hostPort x s).raise f else hostPort y s :=
  hostPort_setHostPort ..

/-- A set read one bit at a time, as the flags and causes of Table 11-3 are. -/
theorem and_one_shiftLeft_ne_zero {w n : Nat} (a : BitVec w) (h : n < w) :
    a &&& ((1 : BitVec w) <<< n) ≠ 0 ↔ a.getLsbD n = true := by
  have single : BitVec.twoPow w n ≠ 0 := fun zero => by
    simpa [h] using congrArg (BitVec.getLsbD · n) zero
  change a &&& BitVec.twoPow w n ≠ 0 ↔ _
  rw [BitVec.and_twoPow]
  split
  · next set => exact iff_of_true single set
  · next clear => exact iff_of_false (not_not_intro rfl) clear

/-- Every flag set in `s` is set in `t`. -/
structure FlagsKept (s t : State) : Prop where
  keeps : ∀ x n, (hostPort x s).flags.getLsbD n = true → (hostPort x t).flags.getLsbD n = true

theorem FlagsKept.of_host {s t : State} (h : t.host = s.host) : FlagsKept s t := by
  refine ⟨fun x n set => ?_⟩
  rwa [hostPort, h]

/-- Flags kept from one state are kept from any state with the same ports. -/
theorem FlagsKept.from_host {s t u : State} (k : FlagsKept t u) (h : t.host = s.host) :
    FlagsKept s u := by
  refine ⟨fun x n set => k.keeps x n ?_⟩
  rwa [hostPort, h]

theorem FlagsKept.trans {s t u : State} (h : FlagsKept s t) (k : FlagsKept t u) : FlagsKept s u :=
  ⟨fun x n set => k.keeps x n (h.keeps x n set)⟩

theorem raiseFlag_flagsKept (x : Port) (f : Flag) (s : State) : FlagsKept s (raiseFlag x f s) := by
  refine ⟨fun y n set => ?_⟩
  rw [hostPort_raiseFlag]
  split
  · next same =>
    subst same
    simp [HostPort.raise, set]
  · exact set

theorem appendRecord_flagsKept (x : Port) (mk : Nat → Record) (s : State) :
    FlagsKept s (appendRecord x mk s) := by
  rw [appendRecord_eq]
  cases (resultQueue x s).appendFlag with
  | none => exact .of_host rfl
  | some f =>
    refine (raiseFlag_flagsKept x f (setQueue x ((resultQueue x s).append mk) s)).from_host ?_
    rfl

theorem noticeOpenPorts_flagsKept (b : NoticeBody) (f : Flag) (s : State) :
    FlagsKept s (noticeOpenPorts b f s) := by
  have tell (x : Port) (s : State) : FlagsKept s
      (whenOpen x (fun s => raiseFlag x f (appendNotice x b s.tmb.counter s)) s) := by
    unfold whenOpen
    split
    · exact (appendRecord_flagsKept ..).trans (raiseFlag_flagsKept ..)
    · exact .of_host rfl
  exact (tell .A s).trans (tell .B _)

/-! ### Causes added to the latch (R120) -/

/-- The latch after causes are added (R120). -/
def TripLatch.add (p : TripLatch) (added : CauseSet) : TripLatch :=
  match p.state with
  | .armed => { p with state := .tripped, causes := added, line := stopLevel p.polarity }
  | .tripped => { p with causes := p.causes ||| added }

theorem TripLatch.add_of_armed {p : TripLatch} {added : CauseSet} (h : p.state = .armed) :
    p.add added
      = { p with state := .tripped, causes := added, line := stopLevel p.polarity } := by
  rw [add, h]

theorem TripLatch.add_of_tripped {p : TripLatch} {added : CauseSet} (h : p.state = .tripped) :
    p.add added = { p with causes := p.causes ||| added } := by
  rw [add, h]

theorem TripLatch.add_state (p : TripLatch) (added : CauseSet) :
    (p.add added).state = .tripped := by
  unfold add
  split
  · rfl
  · assumption

/-- Every added cause is in the set. -/
theorem TripLatch.getLsbD_add {p : TripLatch} {added : CauseSet} {n : Nat}
    (h : added.getLsbD n = true) : (p.add added).causes.getLsbD n = true := by
  unfold add
  split
  · exact h
  · simp [h]

theorem addCauses_trp (added : CauseSet) (s : State) :
    (addCauses added s).trp = s.trp.add added := by
  unfold addCauses
  split
  · next armed =>
    rw [TripLatch.add_of_armed armed]
    obtain ⟨r, h, notices⟩ := noticeOpenPorts_touches (.trip added) .trip
      (s.setTrp { s.trp with
        state := .tripped, causes := added, line := stopLevel s.trp.polarity })
    rw [notices]
    rfl
  · next tripped =>
    rw [TripLatch.add_of_tripped tripped]
    rfl

theorem addCauses_mon (added : CauseSet) (s : State) : (addCauses added s).mon = s.mon := by
  obtain ⟨r, p, h, frame⟩ := addCauses_touches added s
  rw [frame]
  rfl

theorem addCauses_flagsKept (added : CauseSet) (s : State) : FlagsKept s (addCauses added s) := by
  unfold addCauses
  split
  · exact (noticeOpenPorts_flagsKept ..).from_host rfl
  · exact .of_host rfl

/-! ### The monitors evaluated and those that enter VIOLATED -/

theorem Monitor.evaluate_action (m : Monitor) (v : Word) : (m.evaluate v).action = m.action := by
  unfold Monitor.evaluate
  repeat' split
  all_goals rfl

theorem entersViolated_iff {m m' : Monitor} :
    entersViolated m m' = true ↔ m.state ≠ .violated ∧ m'.state = .violated := by
  simp [entersViolated]

/-- The monitors after a value of channel `c` (R113). -/
def evaluated (c : Channel) (v : Word) (s : State) : Vector Monitor 8 :=
  tmap s.mon fun _ m => if m.channel = c then m.evaluate v else m

theorem tget_evaluated (c : Channel) (v : Word) (s : State) (i : MonId) :
    tget (evaluated c v s) i
      = if (monitor i s).channel = c then (monitor i s).evaluate v else monitor i s :=
  tget_tmap ..

/-- An evaluation leaves owner and action. -/
theorem evaluated_settings (c : Channel) (v : Word) (s : State) (i : MonId) :
    (tget (evaluated c v s) i).owner = (monitor i s).owner
      ∧ (tget (evaluated c v s) i).action = (monitor i s).action := by
  rw [tget_evaluated]
  split
  · exact ⟨(Monitor.evaluated_evaluate ..).owner, Monitor.evaluate_action ..⟩
  · exact ⟨rfl, rfl⟩

/-- The monitors that a value of channel `c` brings into VIOLATED (R114). -/
def entered (c : Channel) (v : Word) (s : State) : List MonId :=
  allEights.filter fun i => entersViolated (tget s.mon i) (tget (evaluated c v s) i)

theorem mem_entered {c : Channel} {v : Word} {s : State} {i : MonId} :
    i ∈ entered c v s ↔ (monitor i s).channel = c ∧ (monitor i s).state ≠ .violated
      ∧ ((monitor i s).evaluate v).state = .violated := by
  rw [entered, List.mem_filter, and_iff_right (mem_allEights i), entersViolated_iff,
    tget_evaluated]
  change (monitor i s).state ≠ .violated ∧ _ ↔ _
  by_cases watched : (monitor i s).channel = c
  · simp [watched]
  · simp [watched]

/-! ### MONITOR flags (R114) -/

theorem hostPort_raiseMonitorFlag (y : Port) (i : MonId) (s : State) :
    hostPort y (raiseMonitorFlag s i)
      = if (monitor i s).owner = some y then (hostPort y s).raise .monitor else hostPort y s := by
  unfold raiseMonitorFlag
  cases (monitor i s).owner with
  | none => rfl
  | some x =>
    dsimp only
    rw [hostPort_raiseFlag]
    by_cases same : y = x
    · simp [same]
    · simp [same, Ne.symm same]

theorem monitor_raiseMonitorFlag (i j : MonId) (s : State) :
    monitor j (raiseMonitorFlag s i) = monitor j s := by
  unfold raiseMonitorFlag
  split <;> rfl

/-- A port holds MONITOR once it owns a monitor of the list, however many it owns. -/
theorem hostPort_foldl_raiseMonitorFlag (y : Port) (l : List MonId) (s : State) :
    hostPort y (l.foldl raiseMonitorFlag s)
      = if ∃ i ∈ l, (monitor i s).owner = some y then (hostPort y s).raise .monitor
        else hostPort y s := by
  induction l generalizing s with
  | nil => simp
  | cons i l ih =>
    rw [List.foldl_cons, ih, hostPort_raiseMonitorFlag]
    simp only [monitor_raiseMonitorFlag, List.mem_cons, exists_eq_or_imp]
    by_cases own : (monitor i s).owner = some y
    · simp [own, HostPort.raise_raise]
    · simp [own]

/-- MONITOR set at port `x` if it is to be told. -/
def tellPort (told : Port → Bool) (x : Port) (s : State) : State :=
  if told x = true then raiseFlag x .monitor s else s

theorem tellPort_touches (told : Port → Bool) (x : Port) (s : State) :
    ∃ h, tellPort told x s = s.setHost h := by
  unfold tellPort
  split
  · exact raiseFlag_touches ..
  · exact ⟨s.host, rfl⟩

theorem hostPort_tellPort (told : Port → Bool) (x y : Port) (s : State) :
    hostPort y (tellPort told x s)
      = if y = x ∧ told x = true then (hostPort y s).raise .monitor else hostPort y s := by
  unfold tellPort
  split
  · next yes =>
    rw [hostPort_raiseFlag]
    by_cases same : y = x
    · simp [same, yes]
    · simp [same]
  · next no => simp [no]

/-- Both ports told, A first. -/
theorem hostPort_tellPorts (told : Port → Bool) (y : Port) (s : State) :
    hostPort y (tellPort told .B (tellPort told .A s))
      = if told y = true then (hostPort y s).raise .monitor else hostPort y s := by
  rw [hostPort_tellPort, hostPort_tellPort]
  cases y <;> simp

/-- The flags of a list of monitors are one flag for each port that owns one of them. -/
theorem foldl_raiseMonitorFlag_eq {l : List MonId} {s : State} {told : Port → Bool}
    (h : ∀ x, told x = true ↔ ∃ i ∈ l, (monitor i s).owner = some x) :
    l.foldl raiseMonitorFlag s = tellPort told .B (tellPort told .A s) := by
  obtain ⟨p, hp⟩ := foldl_raiseMonitorFlag_touches l s
  obtain ⟨a, ha⟩ := tellPort_touches told .A s
  obtain ⟨b, hb⟩ := tellPort_touches told .B (tellPort told .A s)
  have same : p = b := by
    refine PerPort.ext_get fun x => ?_
    have left := hostPort_foldl_raiseMonitorFlag x l s
    have right := hostPort_tellPorts told x s
    rw [hp] at left
    rw [hb] at right
    simp only [h] at right
    exact left.trans right.symm
  rw [hp, hb, ha, same]
  rfl

/-! ### The causes of monitors with action TRIP (R114) -/

theorem getLsbD_causeBit_monitor (i : MonId) (k : Fin 12) :
    (causeBit (.monitor i)).getLsbD k.val = true ↔ k.val = i.val + 4 := by
  revert i k
  decide

theorem getLsbD_tripCausesOf (s : State) (l : List MonId) (k : Fin 12) :
    (tripCausesOf s l).getLsbD k.val = true
      ↔ ∃ i ∈ l, k.val = i.val + 4 ∧ (monitor i s).action = .trip := by
  induction l using List.reverseRecOn with
  | nil => simp [tripCausesOf]
  | append_singleton l i ih =>
    have last : tripCausesOf s (l ++ [i]) = if (monitor i s).action = .trip then
        tripCausesOf s l ||| causeBit (.monitor i) else tripCausesOf s l := by
      simp [tripCausesOf, List.foldl_append]
    rw [last]
    simp only [List.mem_append, List.mem_singleton, or_and_right, exists_or, exists_eq_left]
    split
    · next trips =>
      rw [BitVec.getLsbD_or, Bool.or_eq_true, ih, getLsbD_causeBit_monitor]
      simp [trips]
    · next alerts => rw [ih]; simp [alerts]

/-! ### A value handed to the monitors -/

/-- The state with the monitors evaluated and the flags raised. -/
def flagged (c : Channel) (v : Word) (s : State) : State :=
  (entered c v s).foldl raiseMonitorFlag (s.setMon (evaluated c v s))

/-- The causes that a value of channel `c` adds. -/
def enteredCauses (c : Channel) (v : Word) (s : State) : CauseSet :=
  tripCausesOf (flagged c v s) (entered c v s)

theorem evaluateMonitors_eq (c : Channel) (v : Word) (s : State) :
    evaluateMonitors c v s = if enteredCauses c v s = 0 then flagged c v s
      else addCauses (enteredCauses c v s) (flagged c v s) := rfl

theorem flagged_touches (c : Channel) (v : Word) (s : State) :
    ∃ h, flagged c v s = (s.setMon (evaluated c v s)).setHost h :=
  foldl_raiseMonitorFlag_touches ..

theorem flagged_mon (c : Channel) (v : Word) (s : State) :
    (flagged c v s).mon = evaluated c v s := by
  obtain ⟨h, frame⟩ := flagged_touches c v s
  rw [frame]
  rfl

theorem flagged_trp (c : Channel) (v : Word) (s : State) : (flagged c v s).trp = s.trp := by
  obtain ⟨h, frame⟩ := flagged_touches c v s
  rw [frame]
  rfl

theorem evaluateMonitors_mon (c : Channel) (v : Word) (s : State) :
    (evaluateMonitors c v s).mon = evaluated c v s := by
  rw [evaluateMonitors_eq]
  split
  · exact flagged_mon ..
  · rw [addCauses_mon, flagged_mon]

/-- Where no monitor enters VIOLATED only the monitors change. -/
theorem evaluateMonitors_of_none_entered {c : Channel} {v : Word} {s : State}
    (h : entered c v s = []) : evaluateMonitors c v s = s.setMon (evaluated c v s) := by
  rw [evaluateMonitors_eq, enteredCauses, flagged, h]
  rfl

theorem getLsbD_enteredCauses (c : Channel) (v : Word) (s : State) (k : Fin 12) :
    (enteredCauses c v s).getLsbD k.val = true
      ↔ ∃ i ∈ entered c v s, k.val = i.val + 4 ∧ (monitor i s).action = .trip := by
  rw [enteredCauses, getLsbD_tripCausesOf]
  unfold monitor
  simp only [flagged_mon, (evaluated_settings c v s _).2]
  rfl

/-- The owner of a monitor that enters VIOLATED holds MONITOR, whatever else is added. -/
theorem evaluateMonitors_flag {c : Channel} {v : Word} {s : State} {i : MonId} {x : Port}
    (h : i ∈ entered c v s) (own : (monitor i s).owner = some x) :
    (hostPort x (evaluateMonitors c v s)).flags &&& 0x010 ≠ 0 := by
  have raised : (hostPort x (flagged c v s)).flags.getLsbD 4 = true := by
    rw [flagged, hostPort_foldl_raiseMonitorFlag,
      if_pos ⟨i, h, (evaluated_settings c v s i).1.trans own⟩]
    simp [HostPort.raise, flagBit]
  have kept : FlagsKept (flagged c v s) (evaluateMonitors c v s) := by
    rw [evaluateMonitors_eq]
    split
    · exact .of_host rfl
    · exact addCauses_flagsKept ..
  exact (and_one_shiftLeft_ne_zero _ (by decide)).mpr (kept.keeps x 4 raised)

/-- A monitor with action TRIP that enters VIOLATED leaves the latch TRIPPED with its cause. -/
theorem evaluateMonitors_trips {c : Channel} {v : Word} {s : State} {i : MonId}
    (h : i ∈ entered c v s) (trips : (monitor i s).action = .trip) :
    (evaluateMonitors c v s).trp.state = .tripped
      ∧ (evaluateMonitors c v s).trp.causes &&& ((1 : CauseSet) <<< (i.val + 4)) ≠ 0 := by
  have cause : (enteredCauses c v s).getLsbD (i.val + 4) = true :=
    (getLsbD_enteredCauses c v s ⟨i.val + 4, by omega⟩).mpr ⟨i, h, rfl, trips⟩
  have adds : enteredCauses c v s ≠ 0 := fun none => by simp [none] at cause
  rw [evaluateMonitors_eq, if_neg adds, addCauses_trp]
  exact ⟨TripLatch.add_state .., (and_one_shiftLeft_ne_zero _ (by omega)).mpr
    (TripLatch.getLsbD_add cause)⟩

/-- Settles O44: the monitors that `entered` lists, one flag for each port that owns one of them,
and the causes of those with action TRIP. -/
theorem monitorViolations : Obligations.MonitorViolations := by
  refine ⟨fun c v s i => ?_, fun c v s quiet => ?_, fun c v s i x watched before after own => ?_,
    fun c v s enters hEnters tells hTells added hAdded u hu => ?_⟩
  · rw [monitor, evaluateMonitors_mon, tget_evaluated]
  · rw [evaluateMonitors_mon]
    refine evaluateMonitors_of_none_entered (List.eq_nil_iff_forall_not_mem.mpr fun i mem => ?_)
    obtain ⟨watched, before, after⟩ := mem_entered.mp mem
    exact quiet i watched before after
  · have mem := mem_entered.mpr ⟨watched, before, after⟩
    exact ⟨evaluateMonitors_flag mem own, evaluateMonitors_trips mem⟩
  · have entersIff i : enters i ↔ i ∈ entered c v s := (hEnters i).trans mem_entered.symm
    simp only [entersIff] at hTells hAdded
    have causes : added = enteredCauses c v s := by
      refine BitVec.eq_of_getLsbD_eq fun k hk => Bool.eq_iff_iff.mpr ?_
      rw [hAdded ⟨k, hk⟩, getLsbD_enteredCauses c v s ⟨k, hk⟩]
      exact exists_congr fun i => and_left_comm
    have flags : flagged c v s = u := by
      rw [hu, evaluateMonitors_mon]
      exact foldl_raiseMonitorFlag_eq fun x => (hTells x).trans <| exists_congr fun i =>
        and_congr_right fun _ => by rw [← (evaluated_settings c v s i).1]; rfl
    rw [evaluateMonitors_eq, causes, ← flags]
    refine ⟨fun none => ⟨if_pos none, flagged_trp ..⟩, fun adds => ?_⟩
    rw [if_neg adds, addCauses_trp, flagged_trp]
    exact ⟨rfl, rfl⟩

end Sys2Proof.Machine
end

section
/-! ## The evaluation table of a monitor (R109, R113) -/

namespace Sys2Proof.Machine

theorem Monitor.isOutside_iff {m : Monitor} {v : Word} :
    m.isOutside v = true ↔ v.toInt < m.low.toInt ∨ m.high.toInt < v.toInt := by
  simp [isOutside]

theorem Monitor.inBand_iff {m : Monitor} {v : Word} : m.inBand v = true
    ↔ m.low.toInt + (m.hysteresis.toNat : Int) ≤ v.toInt
      ∧ v.toInt ≤ m.high.toInt - (m.hysteresis.toNat : Int) := by
  simp [inBand]

theorem Monitor.evaluate_of_off {m : Monitor} (v : Word) (h : m.state = .off) :
    m.evaluate v = m := by
  rw [evaluate, h]

theorem Monitor.evaluate_of_within {m : Monitor} (v : Word) (h : m.state = .within) :
    m.evaluate v = if m.isOutside v = true then
        { m with outside := 1, state := if m.count = 1 then .violated else .counting }
      else m := by
  rw [evaluate, h]

theorem Monitor.evaluate_of_counting {m : Monitor} (v : Word) (h : m.state = .counting) :
    m.evaluate v = if m.isOutside v = true then
        { m with
          outside := m.outside + 1
          state := if m.outside + 1 = m.count then .violated else .counting }
      else { m with outside := 0, state := .within } := by
  rw [evaluate, h]

theorem Monitor.evaluate_of_violated {m : Monitor} (v : Word) (h : m.state = .violated) :
    m.evaluate v = if m.inBand v = true then { m with outside := 0, state := .within } else m := by
  rw [evaluate, h]

/-- Settles O43: one row for each state, and in it one cell for each place of the value. -/
theorem monitorEvaluation : Obligations.MonitorEvaluation := by
  intro m v out band hOut hBand
  rw [← Monitor.isOutside_iff] at hOut
  rw [← Monitor.inBand_iff] at hBand
  refine ⟨m.evaluate_of_off v, fun within => ?_, fun counting => ?_, fun violated => ?_⟩
  · rw [m.evaluate_of_within v within, hOut]
    refine ⟨fun inside => if_neg inside, fun outside once => ?_, fun outside more => ?_⟩
    · rw [if_pos outside, if_pos once]
    · rw [if_pos outside, if_neg more]
  · rw [m.evaluate_of_counting v counting, hOut]
    refine ⟨fun inside => if_neg inside, fun outside last => ?_, fun outside more => ?_⟩
    · rw [if_pos outside, if_pos last, last]
    · rw [if_pos outside, if_neg more, ← counting]
  · rw [m.evaluate_of_violated v violated, hBand]
    exact ⟨fun inside => if_pos inside, fun outside => if_neg outside⟩

end Sys2Proof.Machine
end

section
/-! ## SET_MONITOR, MONITOR_ON and MONITOR_OFF (R110 to R112) -/

namespace Sys2Proof.Machine

open Sys2Proof.Safety

/-- A command with three checks of its own, judged in order before it is answered OK. -/
theorem takeCommand_three_checks {x : Port} {c : HostCommand} {s t : State} {body : State → Reply}
    {payload : List Word} {st₁ st₂ st₃ : Status} {p q r : Prop} [Decidable p] [Decidable q]
    [Decidable r] (tag : Tag) (h : Admits x c s)
    (hb : body (endFrame x s) = if p then .refuse st₁ else if q then .refuse st₂
      else if r then .refuse st₃ else .answer .ok payload t) :
    takeCommand x c tag body s = if p then refused x st₁ tag s else if q then refused x st₂ tag s
      else if r then refused x st₃ tag s else answered x c tag payload t := by
  split_ifs at hb ⊢
  · exact takeCommand_refuse tag h hb
  · exact takeCommand_refuse tag h hb
  · exact takeCommand_refuse tag h hb
  · exact takeCommand_answer tag h hb

/-! ### The settings in argument words -/

theorem actionOf_of_le {w : Word} (h : 2 ≤ w.toNat) : actionOf w = none := by
  have ne (k : Word) (hk : k.toNat < 2) : w ≠ k := by
    rintro rfl
    omega
  unfold actionOf
  rw [if_neg (ne 0 (by decide)), if_neg (ne 1 (by decide))]

theorem limitsFit_iff {low high hyst : Word} : limitsFit low high hyst = true
    ↔ low.toInt ≤ high.toInt ∧ hyst.toNat ≤ 4095
      ∧ low.toInt + (hyst.toNat : Int) ≤ high.toInt - (hyst.toNat : Int) := by
  simp [limitsFit, and_assoc]

theorem settingsOf_of_defined {ch low high hyst cnt act : Word} {c : Channel} {a : MonAction}
    (hc : ch.toNat = c.val) (ha : actionOf act = some a) :
    settingsOf ch low high hyst cnt act
      = if limitsFit low high hyst ∧ 1 ≤ cnt.toNat ∧ cnt.toNat ≤ 15 then
          some ⟨c, low, high, hyst, cnt.toNat, a⟩ else none := by
  unfold settingsOf
  simp only [numberBelow_of_toNat hc, ha]

theorem settingsOf_eq_none {ch low high hyst cnt act : Word}
    (h : 32 ≤ ch.toNat ∨ high.toInt < low.toInt ∨ 4095 < hyst.toNat
      ∨ high.toInt - (hyst.toNat : Int) < low.toInt + (hyst.toNat : Int)
      ∨ cnt = 0 ∨ 15 < cnt.toNat ∨ 2 ≤ act.toNat) :
    settingsOf ch low high hyst cnt act = none := by
  unfold settingsOf
  split
  · next c a hc ha =>
    have channel : ¬ 32 ≤ ch.toNat := fun above => by simp [numberBelow_of_le above] at hc
    have action : ¬ 2 ≤ act.toNat := fun above => by simp [actionOf_of_le above] at ha
    refine if_neg fun ⟨fits, least, most⟩ => ?_
    obtain ⟨ordered, hysteresis, sums⟩ := limitsFit_iff.mp fits
    have counted : cnt ≠ 0 := by
      rintro rfl
      exact absurd least (by decide)
    rcases h with h | h | h | h | h | h | h
    · exact channel h
    · omega
    · omega
    · omega
    · exact counted h
    · omega
    · exact action h
  · rfl

/-! ### SET_MONITOR -/

theorem setMonitorCommand_of_undefined {mn ch low high hyst cnt act : Word} (x : Port) (s : State)
    (h : numberBelow 8 mn = none ∨ settingsOf ch low high hyst cnt act = none) :
    setMonitorCommand x [mn, ch, low, high, hyst, cnt, act] s = .refuse .badArgument := by
  unfold setMonitorCommand
  dsimp only
  split
  · next hi hv =>
    rcases h with h | h
    · cases hi.symm.trans h
    · cases hv.symm.trans h
  · rfl

theorem setMonitorCommand_of_defined {mn ch low high hyst cnt act : Word} {i : MonId}
    {v : MonitorSettings} (x : Port) (s : State) (hi : mn.toNat = i.val)
    (hv : settingsOf ch low high hyst cnt act = some v) :
    setMonitorCommand x [mn, ch, low, high, hyst, cnt, act] s
      = if (monitor i s).owner ≠ some x then .refuse .notOwner
        else if foreignTo x v.channel s = true then .refuse .foreign
        else if (monitor i s).state ≠ .off ∨ absorbed v.channel s = true then .refuse .wrongState
        else .answer .ok [] (setMonitorAt i
          ⟨some x, v.channel, v.low, v.high, v.hysteresis, v.count, v.action, .off, 0⟩ s) := by
  unfold setMonitorCommand
  simp only [numberBelow_of_toNat hi, hv, ite_or]
  by_cases own : (monitor i s).owner = some x
  · simp only [Monitor.program, own]
  · rw [if_pos own, if_pos own]

/-! ### MONITOR_ON and MONITOR_OFF -/

theorem withMonitor_of_toNat {w : Word} {i : MonId} (f : MonId → Reply) (h : w.toNat = i.val) :
    withMonitor [w] f = f i := by
  unfold withMonitor
  simp only [numberBelow_of_toNat h]

theorem withMonitor_of_lt {w : Word} (f : MonId → Reply) (h : 7 < w.toNat) :
    withMonitor [w] f = .refuse .badArgument := by
  unfold withMonitor
  simp only [numberBelow_of_le (n := 8) h]

theorem monitorOnCommand_of_toNat {w : Word} {i : MonId} (x : Port) (s : State)
    (h : w.toNat = i.val) :
    monitorOnCommand x [w] s
      = if (monitor i s).owner ≠ some x then .refuse .notOwner
        else if foreignTo x (monitor i s).channel s = true then .refuse .foreign
        else if (monitor i s).state ≠ .off ∨ (monitor i s).count = 0
          ∨ absorbed (monitor i s).channel s = true then .refuse .wrongState
        else .answer .ok []
          (setMonitorAt i { monitor i s with state := .within, outside := 0 } s) := by
  unfold monitorOnCommand
  simp only [withMonitor_of_toNat _ h, ite_or]

theorem monitorOffCommand_of_toNat {w : Word} {i : MonId} (x : Port) (s : State)
    (h : w.toNat = i.val) :
    monitorOffCommand x [w] s
      = if (monitor i s).owner ≠ some x then .refuse .notOwner
        else .answer .ok [] (setMonitorAt i (monitor i s).turnOff s) :=
  withMonitor_of_toNat _ h

theorem Monitor.turnOff_of_off {m : Monitor} (h : m.state = .off) : m.turnOff = m := by
  rw [turnOff, h]

theorem Monitor.turnOff_of_on {m : Monitor} (h : m.state ≠ .off) :
    m.turnOff = { m with state := .off, outside := 0 } := by
  unfold turnOff
  split
  · next off => exact absurd off h
  all_goals rfl

theorem setMonitorAt_self (i : MonId) (s : State) : setMonitorAt i (monitor i s) s = s := by
  rw [setMonitorAt, monitor, tset_tget, State.setMon_self]

/-- Settles O42: each command by what its arguments name, then by its own checks in order. -/
theorem monitorCommands : Obligations.MonitorCommands := by
  refine ⟨fun x tag mn ch low high hyst cnt act s admitted => ?set,
    fun x tag w s admitted above => ?above, fun x tag w i m s admitted hw hm => ?named⟩
  case set =>
    have admits := admits_of_admitted .setMonitor admitted
    refine ⟨fun undefined => ?_, fun i c a hi hc ha ordered hysteresis sums least most => ?_⟩
    · exact congrArg _ (takeCommand_refuse tag admits (setMonitorCommand_of_undefined _ _
        (undefined.imp numberBelow_of_le settingsOf_eq_none)))
    · have defined : settingsOf ch low high hyst cnt act
          = some ⟨c, low, high, hyst, cnt.toNat, a⟩ :=
        (settingsOf_of_defined hc ha).trans
          (if_pos ⟨limitsFit_iff.mpr ⟨ordered, hysteresis, sums⟩, least, most⟩)
      exact congrArg _
        (takeCommand_three_checks tag admits (setMonitorCommand_of_defined _ _ hi defined))
  case above =>
    have admits c : Admits x c s := admits_of_admitted c admitted
    exact ⟨congrArg _ (takeCommand_refuse tag (admits _) (withMonitor_of_lt _ above)),
      congrArg _ (takeCommand_refuse tag (admits _) (withMonitor_of_lt _ above))⟩
  case named =>
    subst hm
    have admits c : Admits x c s := admits_of_admitted c admitted
    have off := monitorOffCommand_of_toNat x (endFrame x s) hw
    rw [monitor_endFrame] at off
    refine ⟨congrArg _ (takeCommand_three_checks tag (admits _) (monitorOnCommand_of_toNat _ _ hw)),
      fun other => congrArg _ (takeCommand_refuse tag (admits _) (off.trans (if_pos other))),
      fun own on => ?_, fun own isOff => ?_⟩
    · rw [if_neg (not_not_intro own), Monitor.turnOff_of_on on] at off
      exact congrArg _ (takeCommand_answer tag (admits _) off)
    · rw [if_neg (not_not_intro own), Monitor.turnOff_of_off isOff, ← monitor_endFrame i x s,
        setMonitorAt_self] at off
      exact congrArg _ (takeCommand_answer tag (admits _) off)

end Sys2Proof.Machine
end

section
/-! ## Trip causes added: FORCE_TRIP and TRIPIN_CHANGE (R120 to R122) -/

namespace Sys2Proof.Machine

open Sys2Proof.Safety

theorem addCauses_of_armed {s : State} (added : CauseSet) (h : s.trp.state = .armed) :
    addCauses added s = noticeOpenPorts (.trip added) .trip (s.setTrp { s.trp with
      state := .tripped, causes := added, line := stopLevel s.trp.polarity }) := by
  unfold addCauses
  rw [h]

theorem addCauses_of_tripped {s : State} (added : CauseSet) (h : s.trp.state = .tripped) :
    addCauses added s = s.setTrp { s.trp with causes := s.trp.causes ||| added } := by
  unfold addCauses
  rw [h]

/-- A notice and a flag to each port whose session is OPEN, A first. -/
theorem noticeOpenPorts_eq {b : NoticeBody} {f : Flag} {tell : Port → State → State}
    (h : ∀ x u, tell x u = if sessionOpen x u = true then
      raiseFlag x f (appendNotice x b u.tmb.counter u) else u) (s : State) :
    noticeOpenPorts b f s = tell .B (tell .A s) := by
  rw [h .B, h .A]
  rfl

theorem tripinChange_to_active {s : State} (hr : s.resetActive = false)
    (h : s.trp.tripin = .inactive) : tripinChange .low s
      = addCauses (causeBit .ext) (s.setTrp { s.trp with tripin := .active }) := by
  unfold tripinChange
  rw [hr, h]
  rfl

theorem tripinChange_to_inactive {s : State} (hr : s.resetActive = false)
    (h : s.trp.tripin = .active) :
    tripinChange .high s = s.setTrp { s.trp with tripin := .inactive } := by
  unfold tripinChange
  rw [hr, h]
  rfl

/-- Settles O45: the latch by its state, FORCE_TRIP by the session, TRIPIN by its level. -/
theorem causesAdded : Obligations.CausesAdded := by
  refine ⟨fun added s => ⟨addCauses_of_tripped added, fun armed tell hTell => ?_⟩,
    fun x tag s takes starts => ⟨fun shut => ?_, fun opened => ?_⟩,
    fun s awake => ⟨fun inactive => congrArg _ (tripinChange_to_active awake inactive),
      fun active => congrArg _ (tripinChange_to_inactive awake active)⟩⟩
  · rw [addCauses_of_armed added armed, noticeOpenPorts_eq hTell]
  · exact congrArg _ (takeCommand_noSession _ tag _ takes starts
      (passesSession_of_not_open shut rfl (by decide) (by decide)))
  · have taken : exec (.forceTrip x tag []) s = .next (answered x .forceTrip tag []
        (addCauses (causeBit (.host x)) (endFrame x s))) :=
      congrArg _ (takeCommand_answer (body := forceTripCommand x []) tag
        (admits_of_open _ takes starts opened) rfl)
    cases x <;> exact taken

end Sys2Proof.Machine
end

section
/-! ## TRIP_ACK and TRIP_STATUS (R123, R125) -/

namespace Sys2Proof.Machine

open Sys2Proof.Safety

/-! ### The causes a port can vouch for -/

/-- The bit number of a cause in the set of Table 11-3. -/
def causeNumber : Cause → Fin 12
  | .startup => 0
  | .ext => 1
  | .host .A => 2
  | .host .B => 3
  | .monitor i => ⟨i.val + 4, by omega⟩

theorem exists_causeNumber (k : Fin 12) : ∃ c, causeNumber c = k := by
  have listed : ∀ k, ∃ c ∈ allCauses, causeNumber c = k := by decide
  obtain ⟨c, -, hc⟩ := listed k
  exact ⟨c, hc⟩

theorem mem_allCauses (c : Cause) : c ∈ allCauses := by
  cases c with
  | startup | ext => decide
  | host x => cases x <;> decide
  | monitor i => simp [allCauses]

/-- Each cause has a bit of its own. -/
theorem getLsbD_causeBit (c d : Cause) :
    (causeBit d).getLsbD (causeNumber c).val = true ↔ d = c := by
  have listed : ∀ c ∈ allCauses, ∀ d ∈ allCauses,
      ((causeBit d).getLsbD (causeNumber c).val = true ↔ d = c) := by decide
  exact listed c (mem_allCauses c) d (mem_allCauses d)

/-- A set made of the causes of a list that satisfy `p`. -/
theorem getLsbD_foldl_causeBit (p : Cause → Bool) (l : List Cause) (c : Cause) :
    (l.foldl (fun acc d => if p d then acc ||| causeBit d else acc) (0 : CauseSet)).getLsbD
      (causeNumber c).val = true ↔ c ∈ l ∧ p c = true := by
  induction l using List.reverseRecOn with
  | nil => simp
  | append_singleton l d ih =>
    rw [List.foldl_append, List.foldl_cons, List.foldl_nil, List.mem_append, List.mem_singleton,
      or_and_right]
    split
    · next holds =>
      rw [BitVec.getLsbD_or, Bool.or_eq_true, ih, getLsbD_causeBit]
      refine or_congr_right ⟨?_, fun ⟨same, _⟩ => same.symm⟩
      rintro rfl
      exact ⟨rfl, holds⟩
    · next fails =>
      rw [ih, or_iff_left]
      rintro ⟨rfl, holds⟩
      exact fails holds

theorem getLsbD_removableSet (x : Port) (c : Cause) (s : State) :
    (removableSet x s).getLsbD (causeNumber c).val
      = (s.trp.causes.getLsbD (causeNumber c).val && removable x c s) := by
  rw [removableSet, BitVec.getLsbD_and, Bool.and_comm]
  refine congrArg _ (Bool.eq_iff_iff.mpr ?_)
  rw [getLsbD_foldl_causeBit (removable x · s), and_iff_right (mem_allCauses c)]

/-- A monitor's cause, read through the monitor that has its bit number. -/
theorem removable_monitor (x : Port) (i : MonId) (s : State) : removable x (.monitor i) s
    = decide (∃ j : MonId, i.val + 4 = j.val + 4 ∧ (monitor j s).state ≠ .violated
      ∧ ((monitor j s).owner = some x ∨ (monitor j s).owner = none)) := by
  have same (j : MonId) : i.val + 4 = j.val + 4 ↔ i = j := by
    rw [Nat.add_right_cancel_iff, Fin.ext_iff]
  rw [Bool.eq_iff_iff, decide_eq_true_iff]
  simp only [same, exists_eq_left']
  simp [removable, and_comm]

/-! ### Causes removed (R123) -/

theorem removeCauses_of_armed {s : State} (gone : CauseSet) (h : s.trp.state = .armed) :
    removeCauses gone s = s := by
  unfold removeCauses
  rw [h]

theorem removeCauses_of_tripped {s : State} (gone : CauseSet) (h : s.trp.state = .tripped) :
    removeCauses gone s = if s.trp.causes &&& ~~~gone = 0 then
        noticeOpenPorts .tripCleared .rearmed
          (s.setTrp { s.trp with state := .armed, causes := 0, line := runLevel s.trp.polarity })
      else s.setTrp { s.trp with causes := s.trp.causes &&& ~~~gone } := by
  unfold removeCauses
  rw [h]

/-- Settles O46: the removable set bit by bit, then the latch by its state and what is left. -/
theorem tripAcknowledge : Obligations.TripAcknowledge := by
  intro x tag s admitted gone hGone
  have vouched : gone = removableSet x s := by
    refine BitVec.eq_of_getLsbD_eq fun k hk => ?_
    obtain ⟨c, number⟩ := exists_causeNumber ⟨k, hk⟩
    obtain rfl : (causeNumber c).val = k := congrArg Fin.val number
    rw [hGone (causeNumber c), getLsbD_removableSet]
    refine congrArg _ ?_
    cases c with
    | startup | ext => rfl
    | host y => cases x <;> cases y <;> rfl
    | monitor i =>
      have above (n : Fin 12) (least : n.val < 4) : causeNumber (.monitor i) ≠ n := by
        rintro rfl
        exact absurd least (Nat.not_lt.mpr (Nat.le_add_left ..))
      rw [removable_monitor, if_neg (above 0 (by decide)), if_neg (above 1 (by decide)),
        if_neg (above 2 (by decide)), if_neg (above 3 (by decide))]
      rfl
  subst vouched
  refine ⟨removeCauses (removableSet x s) (endFrame x s),
    congrArg _ (takeCommand_answer (body := tripAckCommand x []) tag
      (admits_of_admitted _ admitted) rfl),
    removeCauses_of_armed (s := endFrame x s) _,
    fun tripped left => (removeCauses_of_tripped (s := endFrame x s) _ tripped).trans (if_neg left),
    fun tripped emptied =>
      (removeCauses_of_tripped (s := endFrame x s) _ tripped).trans (if_pos emptied),
    congrArg _ (takeCommand_answer (body := tripStatusCommand x []) tag
      (admits_of_admitted _ admitted) rfl)⟩

end Sys2Proof.Machine
end

section
/-! ## The commanded device reset (R142) -/

namespace Sys2Proof.Machine

open Sys2Proof.Safety

/-- The blocks that hold reset values after the commanded device reset. -/
theorem fresh_deviceReset (s : State) : Fresh (deviceReset s) :=
  ⟨rfl, rfl, .inr ⟨rfl, rfl⟩, rfl, rfl, rfl, rfl, rfl⟩

theorem hostPort_deviceReset (x : Port) (s : State) :
    hostPort x (deviceReset s) = (hostPort x s).commandedReset := by cases x <;> rfl

/-- A frame in progress is abandoned and carries filler from then on (R153, R162). -/
theorem HostPort.commandedReset_eq (p : HostPort) :
    p.commandedReset = ⟨if p.receiver = .idle then .idle else .discarding,
      if p.receiver = .idle then .undriven else .filler, ⟨.resetDone, 0, [1]⟩, 0, 0, false⟩ := by
  unfold HostPort.commandedReset
  cases p.receiver <;> rfl

/-- Each line returns to RISING and keeps its reference level (R88). -/
theorem deviceReset_line (n : Fin 4) (s : State) :
    tget (deviceReset s).trg.line n = ⟨.rising, (tget s.trg.line n).level⟩ := by
  refine (tget_trgReset_line ..).trans ?_
  rw [lineLevels, tget_ofFn]

/-- Settles O13: the reset is one assignment of reset values to the blocks, beside what R142
keeps. -/
theorem commandedResetState : Obligations.CommandedResetState := by
  intro s
  have fresh := fresh_deviceReset s
  refine ⟨⟨rfl, rfl, fun n => by rw [deviceReset_line], rfl⟩, fun c => tget_replicate ..,
    fresh.sequence, rfl, rfl, rfl, fun n => ⟨tget_replicate .., tget_replicate ..⟩,
    fun n => by rw [deviceReset_line], fun n => tget_replicate .., fun x => ?queue,
    fun c => tget_replicate .., fresh.monitor, fun x => ?session, fresh.claimOwner, rfl,
    fun x => ?host⟩
  case queue => cases x <;> rfl
  case session => cases x <;> rfl
  case host =>
    rw [hostPort_deviceReset, HostPort.commandedReset_eq]
    exact ⟨rfl, rfl, rfl, rfl, rfl, rfl⟩

end Sys2Proof.Machine
end

section
/-! ## Leases: what a renewal leaves, and OPEN, RENEW and SET_LEASE (R126 to R129) -/

namespace Sys2Proof.Machine

open Sys2Proof.Safety

/-- A command that passes the start-state and session checks leaves what its own reply settles. -/
theorem takeCommand_of_admits {x : Port} {c : HostCommand} {s : State} {body : State → Reply}
    {r : Reply} (tag : Tag) (h : Admits x c s) (hb : body (endFrame x s) = r) :
    takeCommand x c tag body s = settleReply x c tag (endFrame x s) r := by
  obtain ⟨taken, past, passes⟩ := h
  rw [takeCommand_of_passes c tag body taken past passes, hb]

@[simp] theorem setSession_setSession (x : Port) (u v : Session) (s : State) :
    setSession x v (setSession x u s) = setSession x v s := by
  simp [setSession]

/-! ### Renewals -/

/-- What a renewal makes of the lease: reckoned anew from `now` where R128 lets the command renew,
else as it was. -/
def Lease.renewedBy (c : HostCommand) (now : Time) (l : Lease) : Lease :=
  if l.policy = .renewAny ∨ alwaysRenews c = true then leaseFrom l.interval l.policy now else l

/-- The renewal after a command writes the lease of an OPEN session and nothing else (R128). -/
theorem renewAfter_of_opened {x : Port} {l : Lease} {s : State} (c : HostCommand)
    (h : session x s = .opened l) :
    renewAfter x c s = setSession x (.opened (l.renewedBy c s.tmb.counter)) s := by
  have same : setSession x (.opened l) s = s := h ▸ setSession_self x s
  unfold renewAfter Lease.renewedBy renewLease
  simp only [h, Bool.or_eq_true, decide_eq_true_eq]
  split
  · rfl
  · exact same.symm

theorem renewAfter_of_not_open {x : Port} {s : State} (c : HostCommand)
    (h : sessionOpen x s = false) : renewAfter x c s = s := by
  unfold sessionOpen at h
  unfold renewAfter
  split
  · next opened => simp [opened] at h
  · rfl
  · rfl

/-- A lease that starts now is already what a renewal would make of it. -/
theorem renewedBy_leaseFrom (c : HostCommand) (ms : Word) (p : RenewPolicy) (now : Time) :
    (leaseFrom ms p now).renewedBy c now = leaseFrom ms p now := ite_self _

/-- After a session has opened with a lease that starts now, the renewal changes nothing. -/
theorem renewAfter_of_started {x : Port} {ms : Word} {p : RenewPolicy} {s : State}
    (c : HostCommand) (h : session x s = .opened (leaseFrom ms p s.tmb.counter)) :
    renewAfter x c s = s := by
  rw [renewAfter_of_opened c h, renewedBy_leaseFrom, ← h, setSession_self]

/-! ### Arguments -/

theorem leaseInRange_iff (ms : Word) :
    leaseInRange ms = true ↔ 10 ≤ ms.toNat ∧ ms.toNat ≤ 60000 := by
  simp [leaseInRange]

theorem leaseInRange_of_outside {ms : Word} (h : ms.toNat < 10 ∨ 60000 < ms.toNat) :
    leaseInRange ms = false := by
  rw [Bool.eq_false_iff, ne_eq, leaseInRange_iff]
  omega

theorem policyOf_of_lt {w : Word} (h : w.toNat < 2) :
    policyOf w = some (if w = 0 then .renewAny else .renewExplicit) := by
  unfold policyOf
  split
  · rfl
  · next nonzero =>
    rw [if_pos (by bv_omega)]

theorem policyOf_of_le {w : Word} (h : 2 ≤ w.toNat) : policyOf w = none := by
  unfold policyOf
  rw [if_neg (by bv_omega), if_neg (by bv_omega)]

/-! ### OPEN -/

/-- OPEN is taken in every session state (R133). -/
theorem passesSession_openSession (v : Session) : passesSession v .openSession = true := by
  cases v <;> rfl

theorem openCommand_of_bad {x : Port} {ms pol : Word} (s : State)
    (h : ms.toNat < 10 ∨ 60000 < ms.toNat ∨ 2 ≤ pol.toNat) :
    openCommand x [ms, pol] s = .refuse .badArgument := by
  unfold openCommand
  dsimp only
  split
  · next fits =>
    rw [leaseInRange_iff] at fits
    rw [policyOf_of_le (by omega)]
  · rfl

/-- OPEN with good arguments, by session state (R127). -/
theorem openCommand_of_good {x : Port} {ms pol : Word} {policy : RenewPolicy} (s : State)
    (fits : leaseInRange ms = true) (hp : policyOf pol = some policy) :
    openCommand x [ms, pol] s = match session x s with
      | .opened _ => .refuse .wrongState
      | .closed => .answer .ok [0] (setFlagsMask x 0 0 (startSession x ms policy s))
      | .lapsed => .answer .ok [2] (startSession x ms policy s) := by
  unfold openCommand
  simp only [fits, hp]
  cases session x s <;> rfl

/-- The session that OPEN starts. -/
theorem session_startSession (x : Port) (ms : Word) (p : RenewPolicy) (s : State) :
    session x (startSession x ms p s) = .opened (leaseFrom ms p s.tmb.counter) := by
  simp [startSession, session_setSession]

/-- OPEN from CLOSED and from LAPSED: the answer's renewal finds a lease that starts now. -/
theorem takeCommand_open {x : Port} {s t : State} {body : State → Reply} {payload : List Word}
    {ms : Word} {p : RenewPolicy} (tag : Tag) (h : Admits x .openSession s)
    (hb : body (endFrame x s) = .answer .ok payload t)
    (started : session x t = .opened (leaseFrom ms p t.tmb.counter)) :
    takeCommand x .openSession tag body s = fixResponse x ⟨.ok, tag, payload⟩ t := by
  rw [takeCommand_answer tag h hb, answered, renewAfter_of_started _ started]

/-! ### RENEW and SET_LEASE -/

/-- RENEW and SET_LEASE reckon the lease anew under either policy (R128). -/
theorem renewAfter_always {x : Port} {c : HostCommand} {l : Lease} {s : State}
    (hc : alwaysRenews c = true) (h : session x s = .opened l) :
    renewAfter x c s = setSession x (.opened (leaseFrom l.interval l.policy s.tmb.counter)) s := by
  rw [renewAfter_of_opened c h, Lease.renewedBy, if_pos (.inr hc)]

theorem setLeaseCommand_of_opened {x : Port} {ms : Word} {l : Lease} {s : State}
    (h : session x s = .opened l) : setLeaseCommand x [ms] s
      = if leaseInRange ms = true
        then .answer .ok [] (setSession x (.opened { l with interval := ms }) s)
        else .refuse .badArgument := by
  unfold setLeaseCommand
  simp only [h]

/-- Settles O15: OPEN starts a lease at the frame, so that its own renewal adds nothing; RENEW and
SET_LEASE leave the renewal to reckon the times. -/
theorem openRenewSetLease : Obligations.OpenRenewSetLease := by
  refine ⟨fun x tag ms pol s taken past => ?opens, fun x tag ms l s taken past opened => ?renews⟩
  case opens =>
    have admits : Admits x .openSession s := ⟨taken, past, passesSession_openSession _⟩
    refine ⟨fun bad => congrArg _ (takeCommand_refuse tag admits (openCommand_of_bad _ bad)), ?_⟩
    rintro low high known l rfl
    have good := openCommand_of_good (x := x) (endFrame x s)
      ((leaseInRange_iff ms).mpr ⟨low, high⟩) (policyOf_of_lt known)
    rw [session_endFrame] at good
    refine ⟨fun closed => ?_, fun lapsed => ?_, fun opened => ?_⟩
    · rw [closed] at good
      exact congrArg _ (takeCommand_open tag admits good (session_startSession ..))
    · rw [lapsed] at good
      exact congrArg _ (takeCommand_open tag admits good (session_startSession ..))
    · obtain ⟨l, hl⟩ := session_of_sessionOpen opened
      rw [hl] at good
      exact congrArg _ (takeCommand_refuse tag admits good)
  case renews =>
    have admits (c : HostCommand) : Admits x c s := ⟨taken, past, by rw [opened]; rfl⟩
    have held := (session_endFrame x x s).trans opened
    have command := setLeaseCommand_of_opened (ms := ms) held
    refine ⟨congrArg Host.Outcome.next ?renew, fun low high => congrArg Host.Outcome.next ?setLease,
      fun outside => congrArg Host.Outcome.next ?bad⟩
    case renew =>
      rw [takeCommand_answer (body := renewCommand []) tag (admits _) rfl, answered,
        renewAfter_always rfl held]
      rfl
    case setLease =>
      rw [if_pos ((leaseInRange_iff ms).mpr ⟨low, high⟩)] at command
      have written : session x (setSession x (.opened { l with interval := ms }) (endFrame x s))
          = .opened { l with interval := ms } := session_setSession.trans (if_pos rfl)
      rw [takeCommand_answer tag (admits _) command, answered, renewAfter_always rfl written,
        setSession_setSession]
      rfl
    case bad =>
      rw [leaseInRange_of_outside outside] at command
      exact takeCommand_refuse tag (admits _) command

end Sys2Proof.Machine
end

section
/-! ## Device resets by consent and the ends of sessions (R130 to R132, R139 to R141) -/

namespace Sys2Proof.Machine

open Sys2Proof.Safety

/-! ### RESET_DEVICE and DENY_RESET -/

/-- RESET_DEVICE is taken in every session state (R133). -/
theorem passesSession_resetDevice (v : Session) : passesSession v .resetDevice = true := by
  cases v <;> rfl

/-- RESET_DEVICE while no request stands (R139). -/
theorem resetDeviceCommand_of_none {x : Port} {s : State} (h : s.ses.consent = none) :
    resetDeviceCommand x [] s = if sessionOpen (otherPort x) s = true
      then .answer .pending [] (askConsent x s) else .silent (deviceReset s) := by
  unfold resetDeviceCommand
  simp only [h]

/-- RESET_DEVICE in a consent window (R139). -/
theorem resetDeviceCommand_of_some {x : Port} {c : Consent} {s : State}
    (h : s.ses.consent = some c) : resetDeviceCommand x [] s
      = if c.asker = x then .refuse .wrongState else .silent (deviceReset s) := by
  unfold resetDeviceCommand
  simp only [h]

theorem denyResetCommand_of_none {x : Port} {s : State} (h : s.ses.consent = none) :
    denyResetCommand x [] s = .refuse .wrongState := by
  unfold denyResetCommand
  simp only [h]

/-- DENY_RESET in a consent window (R140). -/
theorem denyResetCommand_of_some {x : Port} {c : Consent} {s : State}
    (h : s.ses.consent = some c) : denyResetCommand x [] s
      = if c.asker = x then .refuse .wrongState else .answer .ok [] (denyRequest c.asker s) := by
  unfold denyResetCommand
  simp only [h]

/-- Settles O14: the two commands by who asks, if anyone does. -/
theorem resetRequests : Obligations.ResetRequests := by
  refine ⟨fun x tag s taken past => ?reset, fun x tag s taken past => ⟨fun closed => ?_, ?deny⟩⟩
  case reset =>
    have admits : Admits x .resetDevice s := ⟨taken, past, passesSession_resetDevice _⟩
    refine ⟨fun quiet closed => ?_, fun quiet opened => ?_, fun c asked => ⟨fun other => ?_, ?_⟩⟩
    · have command := resetDeviceCommand_of_none (x := x) (s := endFrame x s) quiet
      rw [sessionOpen_endFrame, closed, if_neg Bool.false_ne_true] at command
      exact congrArg _ (takeCommand_of_admits tag admits command)
    · have command := resetDeviceCommand_of_none (x := x) (s := endFrame x s) quiet
      rw [sessionOpen_endFrame, if_pos opened] at command
      exact congrArg _ (takeCommand_of_admits tag admits command)
    · have command := resetDeviceCommand_of_some (x := x) (s := endFrame x s) asked
      rw [if_neg (other ▸ otherPort_ne x)] at command
      exact congrArg _ (takeCommand_of_admits tag admits command)
    · rintro rfl
      have command := resetDeviceCommand_of_some (x := c.asker) (s := endFrame c.asker s) asked
      rw [if_pos rfl] at command
      exact congrArg _ (takeCommand_refuse tag admits command)
  · exact congrArg _ (takeCommand_closed tag _ taken past closed rfl (by decide) (by decide))
  case deny =>
    intro opened
    have admits := admits_of_open .denyReset taken past opened
    refine ⟨fun c asked other => ?_, ?_⟩
    · have command := denyResetCommand_of_some (x := x) (s := endFrame x s) asked
      rw [if_neg (other ▸ otherPort_ne x), other] at command
      exact congrArg _ (takeCommand_answer tag admits command)
    · rintro (quiet | ⟨c, asked, rfl⟩)
      · exact congrArg _ (takeCommand_refuse tag admits (denyResetCommand_of_none quiet))
      · have command := denyResetCommand_of_some (x := c.asker) (s := endFrame c.asker s) asked
        rw [if_pos rfl] at command
        exact congrArg _ (takeCommand_refuse tag admits command)

/-! ### CLOSE -/

theorem isAsked_of_other {x : Port} {c : Consent} {s : State} (h : s.ses.consent = some c)
    (other : c.asker = otherPort x) : isAsked x s = true := by
  simp [isAsked, h, other]

theorem isAsked_of_own {x : Port} {s : State}
    (h : ∀ c, s.ses.consent = some c → c.asker = x) : isAsked x s = false := by
  unfold isAsked
  cases hc : s.ses.consent with
  | none => rfl
  | some c => simp [h c hc, (otherPort_ne x).symm]

/-- What the end of a session leaves where no device reset follows it. -/
def ended (x : Port) (e : SessionEnd) (s : State) : State :=
  match e with
  | .close => setFlagsMask x 0 0 (teardown x e (setSession x .closed s))
  | .lapse _ => teardown x e (setSession x .lapsed s)

theorem endSession_eq (x : Port) (e : SessionEnd) (s : State) :
    endSession x e s = if isAsked x s = true then deviceReset (ended x e s) else ended x e s := by
  cases e <;> rfl

theorem endSession_of_asked {x : Port} {s : State} (e : SessionEnd) (h : isAsked x s = true) :
    endSession x e s = deviceReset (ended x e s) :=
  (endSession_eq x e s).trans (if_pos h)

theorem endSession_of_not_asked {x : Port} {s : State} (e : SessionEnd)
    (h : isAsked x s = false) : endSession x e s = ended x e s :=
  (endSession_eq x e s).trans (if_neg (by rw [h]; decide))

/-- A teardown leaves the session records to the command or the timer that ended the session. -/
theorem session_teardown (x y : Port) (e : SessionEnd) (s : State) :
    session y (teardown x e s) = session y s := by
  unfold session
  rw [(teardown_blocks x e s).session]

theorem sessionOpen_ended_close (x : Port) (s : State) :
    sessionOpen x (ended x .close s) = false := by
  have closed : session x (ended x .close s) = .closed :=
    (session_teardown x x .close _).trans (session_setSession.trans (if_pos rfl))
  unfold sessionOpen
  rw [closed]

/-- Settles O16: CLOSE ends the session, so that its answer renews no lease; an asked port's CLOSE
is consent. -/
theorem closeSession : Obligations.CloseSession := by
  intro x tag s admitted
  have admits := admits_of_admitted .closeSession admitted
  refine ⟨fun own => ?_, fun c asked other => ?_⟩
  · have free := isAsked_of_own (x := x) (s := endFrame x s) own
    have command : closeCommand x [] (endFrame x s)
        = .answer .ok [] (endSession x .close (endFrame x s)) := if_neg (by rw [free]; decide)
    rw [endSession_of_not_asked _ free] at command
    refine congrArg _ ((takeCommand_answer tag admits command).trans ?_)
    rw [answered, renewAfter_of_not_open _ (sessionOpen_ended_close ..)]
    rfl
  · have consents := isAsked_of_other (s := endFrame x s) asked other
    have command : closeCommand x [] (endFrame x s)
        = .silent (endSession x .close (endFrame x s)) := if_pos consents
    rw [endSession_of_asked _ consents] at command
    exact congrArg _ (takeCommand_of_admits tag admits command)

/-! ### Expiries -/

/-- Settles O17: each expiry by the session, and by the consent state, that it meets. -/
theorem leaseAndWindowExpiries : Obligations.LeaseAndWindowExpiries := by
  refine ⟨fun x l w s opened armed => congrArg Host.Outcome.next ?warning,
    fun x l s opened => ?expiry, fun c s asked => congrArg Host.Outcome.next ?window⟩
  case warning =>
    unfold leaseWarning
    simp only [opened, armed]
  case expiry =>
    have ends : leaseExpiry x s = endSession x (.lapse l.expiry) s := by
      unfold leaseExpiry
      simp only [opened]
    refine ⟨fun own => congrArg _ (ends.trans ?_), fun c asked other => congrArg _ (ends.trans ?_)⟩
    · exact endSession_of_not_asked _ (isAsked_of_own own)
    · exact endSession_of_asked _ (isAsked_of_other asked other)
  case window =>
    unfold consentWindowExpiry
    simp only [asked]
    rfl

end Sys2Proof.Machine
end

section
/-! ## CLAIM and RELEASE (R13 to R15, R87, R116, R117, R135 to R137) -/

namespace Sys2Proof.Machine

open Sys2Proof.Safety

/-! ### The two commands -/

/-- A class above 2, and a number beyond its class, name no resource (R136). -/
theorem resourceOf_of_bad {cls num : Word}
    (h : 2 < cls.toNat ∨ (if cls = 0 then 24 else 8) ≤ num.toNat) : resourceOf cls num = none := by
  unfold resourceOf
  by_cases channel : cls = 0
  · subst channel
    have beyond : 24 ≤ num.toNat := h.resolve_left (by decide)
    rw [if_pos rfl, numberBelow_of_le beyond]
    rfl
  · rw [if_neg channel] at h ⊢
    rcases h with unknown | beyond
    · rw [if_neg (by bv_omega), if_neg (by bv_omega)]
    · rw [numberBelow_of_le beyond]
      repeat' split
      all_goals rfl

theorem claimCommand_of_bad {x : Port} {cls num : Word} (s : State)
    (h : resourceOf cls num = none) : claimCommand x [cls, num] s = .refuse .badArgument := by
  unfold claimCommand
  simp only [h]

theorem releaseCommand_of_bad {x : Port} {cls num : Word} (s : State)
    (h : resourceOf cls num = none) : releaseCommand x [cls, num] s = .refuse .badArgument := by
  unfold releaseCommand
  simp only [h]

/-- CLAIM of a resource that has an owner (R136). -/
theorem claimCommand_of_owned {x y : Port} {cls num : Word} {r : Resource} {s : State}
    (h : resourceOf cls num = some r) (ho : claimOwner r s = some y) :
    claimCommand x [cls, num] s = if y = x then .answer .ok [1] s else .refuse .owned := by
  unfold claimCommand
  simp only [h, ho]

/-- CLAIM of a resource that has none (R136). -/
theorem claimCommand_of_unowned {x : Port} {cls num : Word} {r : Resource} {s : State}
    (h : resourceOf cls num = some r) (ho : claimOwner r s = none) :
    claimCommand x [cls, num] s = if inUseAgainstClaim x r s = true then .refuse .inUse
      else .answer .ok [0] (grantResource r x s) := by
  unfold claimCommand
  simp only [h, ho]

theorem releaseCommand_of_resource {x : Port} {cls num : Word} {r : Resource} (s : State)
    (h : resourceOf cls num = some r) : releaseCommand x [cls, num] s
      = if claimOwner r s = some x
        then if inUseAgainstRelease x r s = true then .refuse .inUse
          else .answer .ok [] (releaseResource r s)
        else .refuse .notOwner := by
  unfold releaseCommand
  simp only [h]

/-- The in-use questions do not see the frame. -/
theorem inUseAgainstClaim_endFrame (x y : Port) (r : Resource) (s : State) :
    inUseAgainstClaim x r (endFrame y s) = inUseAgainstClaim x r s := by cases r <;> rfl

theorem inUseAgainstRelease_endFrame (x y : Port) (r : Resource) (s : State) :
    inUseAgainstRelease x r (endFrame y s) = inUseAgainstRelease x r s := by cases r <;> rfl

/-- Only a channel can be in use against a claim. -/
theorem inUseAgainstClaim_eq_false {x : Port} {r : Resource} {s : State}
    (h : ∀ c, r = .channel c → (usedBySequences (otherPort x) (channelOf c) s
      || usedByMonitors (otherPort x) (channelOf c) s) = false) :
    inUseAgainstClaim x r s = false := by
  cases r with
  | channel c => exact h c rfl
  | monitor i => rfl
  | source n => rfl

section

variable {x : Port} {cls num : Word} {r : Resource} {s : State} (tag : Tag)

theorem claim_held (h : Admits x .claim s) (hr : resourceOf cls num = some r)
    (ho : claimOwner r s = some x) :
    exec (.claim x tag [cls, num]) s = .next (answered x .claim tag [1] (endFrame x s)) :=
  congrArg _ (takeCommand_answer tag h
    ((claimCommand_of_owned (s := endFrame x s) hr ho).trans (if_pos rfl)))

theorem claim_owned (h : Admits x .claim s) (hr : resourceOf cls num = some r)
    (ho : claimOwner r s = some (otherPort x)) :
    exec (.claim x tag [cls, num]) s = .next (refused x .owned tag s) :=
  congrArg _ (takeCommand_refuse tag h
    ((claimCommand_of_owned (s := endFrame x s) hr ho).trans (if_neg (otherPort_ne x))))

theorem claim_inUse (h : Admits x .claim s) (hr : resourceOf cls num = some r)
    (ho : claimOwner r s = none) (hu : inUseAgainstClaim x r s = true) :
    exec (.claim x tag [cls, num]) s = .next (refused x .inUse tag s) :=
  congrArg _ (takeCommand_refuse tag h ((claimCommand_of_unowned (s := endFrame x s) hr ho).trans
    (if_pos ((inUseAgainstClaim_endFrame ..).trans hu))))

theorem claim_granted (h : Admits x .claim s) (hr : resourceOf cls num = some r)
    (ho : claimOwner r s = none) (hu : inUseAgainstClaim x r s = false) :
    exec (.claim x tag [cls, num]) s
      = .next (answered x .claim tag [0] (grantResource r x (endFrame x s))) := by
  refine congrArg _ (takeCommand_answer tag h
    ((claimCommand_of_unowned (s := endFrame x s) hr ho).trans (if_neg ?_)))
  rw [inUseAgainstClaim_endFrame, hu]
  decide

theorem release_outcome (h : Admits x .release s) (hr : resourceOf cls num = some r) :
    exec (.release x tag [cls, num]) s = .next
      (if claimOwner r s ≠ some x then refused x .notOwner tag s
       else if inUseAgainstRelease x r s = true then refused x .inUse tag s
       else answered x .release tag [] (releaseResource r (endFrame x s))) := by
  have command := releaseCommand_of_resource (x := x) (endFrame x s) hr
  rw [claimOwner_endFrame, inUseAgainstRelease_endFrame] at command
  refine congrArg Host.Outcome.next ?_
  by_cases owned : claimOwner r s = some x
  · rw [if_pos owned] at command
    rw [if_neg (not_not.mpr owned)]
    by_cases used : inUseAgainstRelease x r s = true
    · rw [if_pos used] at command ⊢
      exact takeCommand_refuse tag h command
    · rw [if_neg used] at command ⊢
      exact takeCommand_answer tag h command
  · rw [if_neg owned] at command
    rw [if_pos owned]
    exact takeCommand_refuse tag h command

end

/-! ### What a grant and a release write -/

/-- Beside the passing of the resource, a release invalidates the snapshot entry of a channel and
marks a measurement of it in flight, and touches no other block (R14). -/
theorem releaseResource_blocks (r : Resource) (s : State) :
    (releaseResource r s).cfe = (reowned r none s).cfe
      ∧ (releaseResource r s).mon = (reowned r none s).mon
      ∧ (releaseResource r s).trg = (reowned r none s).trg
      ∧ (releaseResource r s).ses = (reowned r none s).ses ∧ (releaseResource r s).trp = s.trp := by
  cases r <;> exact ⟨rfl, rfl, rfl, rfl, rfl⟩

theorem claimOwner_releaseResource (r q : Resource) (s : State) :
    claimOwner q (releaseResource r s) = if r = q then none else claimOwner q s := by
  obtain ⟨_, _, _, ses, _⟩ := releaseResource_blocks r s
  refine Eq.trans ?_ (claimOwner_reowned r q none s)
  unfold claimOwner
  rw [ses]

theorem snapshot_releaseResource (c : ExtChannel) (s : State) :
    tget (releaseResource (.channel c) s).res.snapshot (channelOf c)
      = ⟨(tget s.res.snapshot (channelOf c)).generation, none⟩ := tget_tset_same ..

theorem inFlight_releaseResource {c : ExtChannel} {m : Measurement} {s : State}
    (h : inFlight s = some m) (hm : m.channel = channelOf c) :
    inFlight (releaseResource (.channel c) s) = some { m with cfgChanged := true } := by
  refine (inFlight_markConfigChanged (fun d => d == channelOf c)
    (invalidateSnapshot (channelOf c) (reowned (.channel c) none s))).trans ?_
  refine (congrArg _ (show _ = some m from h)).trans (congrArg some (if_pos ?_))
  rw [hm, beq_self_eq_true]

/-- The released settings of a trigger line (R87). -/
theorem releaseSourceSettings_line (n : Fin 4) (t : TriggerUnit) :
    tget (releaseSourceSettings (lineSource n) t).line n
      = { tget t.line n with edge := .rising } := by
  have line : (lineSource n).val < 4 := n.isLt
  unfold releaseSourceSettings
  rw [dif_pos line]
  exact tget_tset_same ..

/-- The released settings of a cadence timer (R87). -/
theorem releaseSourceSettings_timer (n : Fin 4) (t : TriggerUnit) :
    tget (releaseSourceSettings (timerSource n) t).timer n = defaultTimer := by
  have timer : ¬ (timerSource n).val < 4 := Nat.not_lt.mpr (Nat.le_add_left 4 n.val)
  unfold releaseSourceSettings
  rw [dif_neg timer]
  exact tget_tset_same ..

/-- Settles O19: the commands by owner and use, then what a grant and a release write. -/
theorem claimsGrantsReleases : Obligations.ClaimsGrantsReleases := by
  refine ⟨⟨fun x tag cls num s admitted => ⟨fun bad => ?bad, fun r hr => ?claim⟩,
    fun x tag cls num r s admitted hr used hu => ?release⟩,
    fun r x s => ?granted, fun r s => ?released⟩
  case bad =>
    have unnamed := resourceOf_of_bad bad
    exact ⟨congrArg _ (takeCommand_refuse tag (admits_of_admitted _ admitted)
        (claimCommand_of_bad _ unnamed)),
      congrArg _ (takeCommand_refuse tag (admits_of_admitted _ admitted)
        (releaseCommand_of_bad _ unnamed))⟩
  case claim =>
    have admits := admits_of_admitted .claim admitted
    refine ⟨claim_held tag admits hr, claim_owned tag admits hr, fun unowned => ⟨?_, fun free =>
      claim_granted tag admits hr unowned (inUseAgainstClaim_eq_false free)⟩⟩
    rintro c rfl used
    exact claim_inUse tag admits hr unowned used
  case release =>
    have same : used = inUseAgainstRelease x r s := hu.trans (by cases r <;> rfl)
    rw [same]
    exact release_outcome tag (admits_of_admitted _ admitted) hr
  case granted =>
    rw [grantResource_eq]
    refine ⟨?_, fun c hc => ?_, fun i hi => ?_, fun n hn => ⟨?_, ?_⟩, rfl⟩
    · rw [claimOwner_reowned, if_pos rfl]
    · rw [tget_reowned_cfe, if_pos hc]
      rfl
    · rw [monitor_reowned, if_pos hi]
      rfl
    · rw [tget_reowned_owner, if_pos hn]
    · subst hn
      exact ⟨rfl, rfl⟩
  case released =>
    obtain ⟨cfe, mon, trg, _, trp⟩ := releaseResource_blocks r s
    refine ⟨?_, fun q other => ?_, ?freedChannel, fun i hi => ?freedMonitor, ?freedLine,
      ?freedTimer, trp⟩
    · rw [claimOwner_releaseResource, if_pos rfl]
    · rw [claimOwner_releaseResource, if_neg other.symm]
    case freedChannel =>
      rintro c rfl
      refine ⟨?_, snapshot_releaseResource c s, fun m => inFlight_releaseResource⟩
      rw [cfe, tget_reowned_cfe, if_pos rfl]
      rfl
    case freedMonitor =>
      unfold monitor
      rw [mon]
      exact (monitor_reowned ..).trans (if_pos hi)
    case freedLine =>
      rintro n rfl
      rw [trg, tget_reowned_owner, if_pos rfl]
      exact ⟨rfl, releaseSourceSettings_line ..⟩
    case freedTimer =>
      rintro n rfl
      rw [trg, tget_reowned_owner, if_pos rfl]
      exact ⟨rfl, releaseSourceSettings_timer ..⟩

end Sys2Proof.Machine
end

section
/-! ## Which commands renew the lease (R126, R128)

All but OPEN, CLOSE and SET_LEASE leave the lease to the renewal that follows their answer:
`commandBody_spares` says so for every command at once. -/

namespace Sys2Proof.Machine

open Sys2Proof.Safety

/-! ### What a renewal starts from -/

/-- The session records and the counter, from which a renewal is reckoned, are the same. -/
structure LeaseKept (s t : State) : Prop where
  sessions : t.ses.session = s.ses.session
  counter : t.tmb.counter = s.tmb.counter

theorem LeaseKept.refl (s : State) : LeaseKept s s := ⟨rfl, rfl⟩

theorem LeaseKept.trans {s t u : State} (h : LeaseKept s t) (k : LeaseKept t u) : LeaseKept s u :=
  ⟨k.sessions.trans h.sessions, k.counter.trans h.counter⟩

/-- Reports reach neither the session unit nor the timebase. -/
theorem Reports.leaseKept {s t : State} (h : Reports s t) : LeaseKept s t := by
  obtain ⟨_, _, _, _, rfl⟩ := h.frame
  exact ⟨rfl, rfl⟩

/-- Conversion work reaches neither the session unit nor the timebase. -/
theorem LeaseKept.ofWork {s t : State}
    (h : ∃ c q k, t = ((s.setCnv c).setSeq q).setSch k) : LeaseKept s t := by
  obtain ⟨_, _, _, rfl⟩ := h
  exact ⟨rfl, rfl⟩

/-- A refusal has a refusal's status, an answer's state is as `P` says, and a command leaves no
response of its own only where it resets the device. -/
def Reply.Answers (P : State → Prop) : Reply → Prop
  | .refuse st => isRefusal st = true
  | .answer _ _ t => P t
  | .silent t => ∀ x, (hostPort x t).response.status = .resetDone

/-- A command that leaves the lease to the renewal. -/
abbrev Reply.Spares (s : State) (r : Reply) : Prop := r.Answers (LeaseKept s)

theorem Reply.Answers.mono {P Q : State → Prop} {r : Reply} (h : r.Answers P)
    (le : ∀ t, P t → Q t) : r.Answers Q := by
  cases r with
  | refuse st => exact h
  | answer st p t => exact le t h
  | silent t => exact h

theorem judge_answers {P : State → Prop} {x : Port} {c : HostCommand} {body : State → Reply}
    {s : State} (h : (body s).Answers P) : (judge x c body s).Answers P := by
  unfold judge
  split
  · split
    · exact h
    · exact rfl
  · exact rfl

/-! ### Channels and claims -/

theorem setCfe_leaseKept (v : Vector Descriptor 24) (s : State) : LeaseKept s (s.setCfe v) :=
  ⟨rfl, rfl⟩

theorem markConfigChanged_leaseKept (p : Channel → Bool) (s : State) :
    LeaseKept s (markConfigChanged p s) := ⟨rfl, rfl⟩

theorem writeDescriptor_leaseKept (c : ExtChannel) (range : Range) (mode : InputMode)
    (settle : BitVec 10) (s : State) : LeaseKept s (writeDescriptor c range mode settle s) := by
  unfold writeDescriptor
  exact ((setCfe_leaseKept ..).trans (invalidateForWrite_reports ..).leaseKept).trans
    (markConfigChanged_leaseKept ..)

theorem setChannelCommand_spares (x : Port) (args : List Word) (s : State) :
    (setChannelCommand x args s).Spares s := by
  unfold setChannelCommand checkedWrite
  dsimp only
  repeat' split
  any_goals exact rfl
  all_goals exact writeDescriptor_leaseKept ..

theorem claimCommand_spares (x : Port) (args : List Word) (s : State) :
    (claimCommand x args s).Spares s := by
  unfold claimCommand
  repeat' split
  any_goals exact rfl
  · exact LeaseKept.refl s
  · rw [grantResource_eq]
    exact ⟨rfl, rfl⟩

theorem releaseCommand_spares (x : Port) (args : List Word) (s : State) :
    (releaseCommand x args s).Spares s := by
  unfold releaseCommand
  repeat' split
  any_goals exact rfl
  next r _ _ _ => cases r <;> exact ⟨rfl, rfl⟩

/-! ### Conversions and sequences -/

theorem promptRequest_leaseKept (e : PromptEntry) (s : State) : LeaseKept s (promptRequest e s) :=
  .ofWork (promptRequest_touches e s)

theorem convertNowCommand_spares (x : Port) (args : List Word) (s : State) :
    (convertNowCommand x args s).Spares s := by
  unfold convertNowCommand
  repeat' split
  any_goals exact rfl
  all_goals exact promptRequest_leaseKept ..

theorem defineCommand_spares (x : Port) (args : List Word) (s : State) :
    (defineCommand x args s).Spares s := by
  unfold defineCommand checkedDefine
  repeat' split
  any_goals exact rfl
  all_goals
    rw [allocate_eq]
    exact ⟨rfl, rfl⟩

theorem ownSequence_spares {x : Port} {args : List Word} {s : State}
    {f : SeqId → Sequence → Reply} (h : ∀ id q, (f id q).Spares s) :
    (ownSequence x args s f).Spares s := by
  unfold ownSequence
  repeat' split
  any_goals exact rfl
  all_goals exact h ..

theorem deleteCommand_spares (x : Port) (args : List Word) (s : State) :
    (deleteCommand x args s).Spares s := by
  refine ownSequence_spares fun id q => ?_
  split
  · rw [freeSequence_eq]
    exact ⟨rfl, rfl⟩
  · exact rfl

theorem setSequence_leaseKept (id : SeqId) (q : Option Sequence) (s : State) :
    LeaseKept s (setSequence id q s) := ⟨rfl, rfl⟩

theorem enableSequence_leaseKept (id : SeqId) (q : Sequence) (s : State) :
    LeaseKept s (enableSequence id q s) := by
  unfold enableSequence
  split
  · exact setSequence_leaseKept ..
  · exact setSequence_leaseKept ..
  · exact (setSequence_leaseKept ..).trans (.ofWork (dispatchIfFree_touches _))

theorem enableCommand_spares (x : Port) (args : List Word) (s : State) :
    (enableCommand x args s).Spares s := by
  refine ownSequence_spares fun id q => ?_
  repeat' split
  any_goals exact rfl
  all_goals exact enableSequence_leaseKept ..

theorem stopCommand_spares (x : Port) (args : List Word) (s : State) :
    (stopCommand x args s).Spares s := by
  refine ownSequence_spares fun id q => ?_
  split
  · exact rfl
  · unfold stopSequence
    split <;> exact ⟨rfl, rfl⟩

theorem haltSequence_leaseKept (x : Port) (id : SeqId) (q : Sequence) (s : State) :
    LeaseKept s (haltSequence x id q s) := by
  have withdrawn : LeaseKept s (withdraw id q.state s) := by
    rw [withdraw_eq]
    exact ⟨rfl, rfl⟩
  refine .trans ?_ (appendNotice_reports ..).leaseKept
  exact (withdrawn.trans (setSequence_leaseKept ..)).trans (.ofWork (abandonWhere_touches ..))

theorem haltCommand_spares (x : Port) (args : List Word) (s : State) :
    (haltCommand x args s).Spares s := by
  refine ownSequence_spares fun id q => ?_
  split
  · exact rfl
  · exact haltSequence_leaseKept ..

theorem runCommand_spares (x : Port) (args : List Word) (s : State) :
    (runCommand x args s).Spares s := by
  refine ownSequence_spares fun id q => ?_
  repeat' split
  any_goals exact rfl
  exact (setSequence_leaseKept ..).trans (promptRequest_leaseKept ..)

/-! ### Results -/

theorem reportFall_leaseKept (before after : Nat) (s : State) :
    LeaseKept s (reportFall before after s) := .ofWork (reportFall_touches ..)

theorem setQueue_leaseKept (x : Port) (q : ResultQueue) (s : State) :
    LeaseKept s (setQueue x q s) := ⟨rfl, rfl⟩

theorem readResultsCommand_spares (x : Port) (args : List Word) (s : State) :
    (readResultsCommand x args s).Spares s := by
  unfold readResultsCommand
  repeat' split
  any_goals exact rfl
  exact (setQueue_leaseKept ..).trans (reportFall_leaseKept ..)

theorem flushCommand_spares (x : Port) (args : List Word) (s : State) :
    (flushCommand x args s).Spares s := by
  unfold flushCommand
  split
  · exact (setQueue_leaseKept ..).trans (reportFall_leaseKept ..)
  · exact rfl

theorem markCommand_spares (x : Port) (args : List Word) (s : State) :
    (markCommand x args s).Spares s := by
  unfold markCommand
  repeat' split
  any_goals exact rfl
  exact (appendNotice_reports ..).leaseKept

theorem setWatermarkCommand_spares (x : Port) (args : List Word) (s : State) :
    (setWatermarkCommand x args s).Spares s := by
  unfold setWatermarkCommand
  split
  · split
    · dsimp only
      split <;> exact ⟨rfl, rfl⟩
    · exact rfl
  · exact rfl

/-! ### Monitors and the trip latch -/

theorem withMonitor_spares {args : List Word} {s : State} {f : MonId → Reply}
    (h : ∀ i, (f i).Spares s) : (withMonitor args f).Spares s := by
  unfold withMonitor
  repeat' split
  any_goals exact rfl
  all_goals exact h _

theorem monitorOnCommand_spares (x : Port) (args : List Word) (s : State) :
    (monitorOnCommand x args s).Spares s := by
  refine withMonitor_spares fun i => ?_
  dsimp only
  repeat' split
  any_goals exact rfl
  all_goals exact ⟨rfl, rfl⟩

theorem monitorOffCommand_spares (x : Port) (args : List Word) (s : State) :
    (monitorOffCommand x args s).Spares s := by
  refine withMonitor_spares fun i => ?_
  split
  · exact rfl
  · exact ⟨rfl, rfl⟩

theorem getMonitorCommand_spares (args : List Word) (s : State) :
    (getMonitorCommand args s).Spares s := withMonitor_spares fun _ => LeaseKept.refl s

theorem tripAckCommand_spares (x : Port) (args : List Word) (s : State) :
    (tripAckCommand x args s).Spares s := by
  unfold tripAckCommand
  split
  · exact (removeCauses_reports ..).leaseKept
  · exact rfl

theorem forceTripCommand_spares (x : Port) (args : List Word) (s : State) :
    (forceTripCommand x args s).Spares s := by
  unfold forceTripCommand
  split
  · exact (addCauses_reports (causeBit_ne_zero _) s).leaseKept
  · exact rfl

/-! ### Sessions and reset by consent -/

/-- In an OPEN session OPEN is refused (R127). -/
theorem openCommand_spares {x : Port} {s : State} (args : List Word)
    (h : sessionOpen x s = true) : (openCommand x args s).Spares s := by
  obtain ⟨l, opened⟩ := session_of_sessionOpen h
  unfold openCommand
  simp only [opened]
  repeat' split
  all_goals exact rfl

theorem deviceReset_spares (s : State) : (Reply.silent (deviceReset s)).Spares s := fun x => by
  rw [hostPort_deviceReset, HostPort.commandedReset_eq]

theorem resetDeviceCommand_spares (x : Port) (args : List Word) (s : State) :
    (resetDeviceCommand x args s).Spares s := by
  unfold resetDeviceCommand
  repeat' split
  any_goals exact rfl
  · exact ⟨rfl, rfl⟩
  · exact deviceReset_spares s
  · exact deviceReset_spares s

/-! ### Every command -/

/-- A command's own checks and effect. -/
def commandBody (x : Port) (c : HostCommand) (args : List Word) : State → Reply :=
  match c with
  | .openSession => openCommand x args
  | .closeSession => closeCommand x args
  | .renew => renewCommand args
  | .setLease => setLeaseCommand x args
  | .resetDevice => resetDeviceCommand x args
  | .denyReset => denyResetCommand x args
  | .status => statusCommand x args
  | .ident => identCommand x args
  | .repeatLast => repeatCommand args
  | .ackEvents => ackEventsCommand x args
  | .setAlertMask => setAlertMaskCommand x args
  | .claim => claimCommand x args
  | .release => releaseCommand x args
  | .setChannel => setChannelCommand x args
  | .getChannel => getChannelCommand args
  | .defineSequence => defineCommand x args
  | .deleteSequence => deleteCommand x args
  | .enable => enableCommand x args
  | .stop => stopCommand x args
  | .halt => haltCommand x args
  | .run => runCommand x args
  | .getSequence => getSequenceCommand args
  | .convertNow => convertNowCommand x args
  | .setTrigger => setTriggerCommand x args
  | .setCadence => setCadenceCommand x args
  | .startCadence => startCadenceCommand x args
  | .stopCadence => stopCadenceCommand x args
  | .readResults => readResultsCommand x args
  | .flush => flushCommand x args
  | .mark => markCommand x args
  | .setWatermark => setWatermarkCommand x args
  | .readSnapshot => readSnapshotCommand args
  | .setMonitor => setMonitorCommand x args
  | .monitorOn => monitorOnCommand x args
  | .monitorOff => monitorOffCommand x args
  | .getMonitor => getMonitorCommand args
  | .tripAck => tripAckCommand x args
  | .forceTrip => forceTripCommand x args
  | .tripStatus => tripStatusCommand x args
  | .readTime => readTimeCommand args
  | .readSync => readSyncCommand args
  | .checkClock => checkClockCommand x args
  | .readClockCheck => readClockCheckCommand x args

/-- A command row takes the command with these checks. -/
theorem exec_commandRow (x : Port) (c : HostCommand) (tag : Tag) (args : List Word) (s : State) :
    exec (commandRow x c tag args) s = .next (takeCommand x c tag (commandBody x c args) s) := by
  cases c <;> rfl

/-- In an OPEN session only CLOSE and SET_LEASE change the lease themselves. -/
theorem commandBody_spares {x : Port} {c : HostCommand} {s : State} (args : List Word)
    (h : sessionOpen x s = true) (close : c ≠ .closeSession) (set : c ≠ .setLease)
    (again : c ≠ .repeatLast) : (commandBody x c args s).Spares s := by
  cases c with
  | closeSession => exact absurd rfl close
  | setLease => exact absurd rfl set
  | repeatLast => exact absurd rfl again
  | openSession => exact openCommand_spares args h
  | resetDevice => exact resetDeviceCommand_spares x args s
  | claim => exact claimCommand_spares x args s
  | release => exact releaseCommand_spares x args s
  | setChannel => exact setChannelCommand_spares x args s
  | defineSequence => exact defineCommand_spares x args s
  | deleteSequence => exact deleteCommand_spares x args s
  | enable => exact enableCommand_spares x args s
  | stop => exact stopCommand_spares x args s
  | halt => exact haltCommand_spares x args s
  | run => exact runCommand_spares x args s
  | convertNow => exact convertNowCommand_spares x args s
  | readResults => exact readResultsCommand_spares x args s
  | flush => exact flushCommand_spares x args s
  | mark => exact markCommand_spares x args s
  | setWatermark => exact setWatermarkCommand_spares x args s
  | monitorOn => exact monitorOnCommand_spares x args s
  | monitorOff => exact monitorOffCommand_spares x args s
  | getMonitor => exact getMonitorCommand_spares args s
  | tripAck => exact tripAckCommand_spares x args s
  | forceTrip => exact forceTripCommand_spares x args s
  -- These write at most a trigger source, a monitor, a mark of a clock check, a port's flags or
  -- the consent state.
  | renew | denyReset | status | ident | ackEvents | setAlertMask | getChannel | getSequence
  | setTrigger | setCadence | startCadence | stopCadence | readSnapshot | setMonitor | tripStatus
  | readTime | readSync | checkClock | readClockCheck =>
    dsimp only [commandBody, renewCommand, denyResetCommand, statusCommand, identCommand,
      ackEventsCommand, setAlertMaskCommand, getChannelCommand, getSequenceCommand,
      setTriggerCommand, setCadenceCommand, startCadenceCommand, stopCadenceCommand,
      readSnapshotCommand, setMonitorCommand, tripStatusCommand, readTimeCommand, readSyncCommand,
      checkClockCommand, readClockCheckCommand]
    repeat' split
    any_goals exact rfl
    all_goals exact ⟨rfl, rfl⟩

/-! ### The renewal of an answer -/

/-- In `t` port `x` has the lease `l`, but for the interval that SET_LEASE writes, and the counter
is that of `s`. -/
def LeaseHeld (x : Port) (c : HostCommand) (l : Lease) (s t : State) : Prop :=
  t.tmb.counter = s.tmb.counter
    ∧ ∃ m, session x t = .opened m ∧ m.policy = l.policy ∧ (c ≠ .setLease → m = l)

theorem LeaseKept.held {x : Port} {l : Lease} {s t : State} (c : HostCommand) (h : LeaseKept s t)
    (opened : session x s = .opened l) : LeaseHeld x c l s t := by
  refine ⟨h.counter, l, ?_, rfl, fun _ => rfl⟩
  unfold session
  rw [h.sessions]
  exact opened

theorem setLeaseCommand_answers {x : Port} {l : Lease} {s : State} (args : List Word)
    (opened : session x s = .opened l) :
    (setLeaseCommand x args s).Answers (LeaseHeld x .setLease l s) := by
  unfold setLeaseCommand
  simp only [opened]
  repeat' split
  any_goals exact rfl
  exact ⟨rfl, _, session_setSession.trans (if_pos rfl), rfl, absurd rfl⟩

theorem commandBody_answers {x : Port} {c : HostCommand} {l : Lease} {s : State}
    (args : List Word) (opened : session x s = .opened l) (close : c ≠ .closeSession)
    (again : c ≠ .repeatLast) : (commandBody x c args s).Answers (LeaseHeld x c l s) := by
  by_cases set : c = .setLease
  · subst set
    exact setLeaseCommand_answers args opened
  · have isOpen : sessionOpen x s = true := by
      unfold sessionOpen
      rw [opened]
    exact (commandBody_spares args isOpen close set again).mono fun t kept => kept.held c opened

/-- A reply that leaves the status OK or PENDING is an answer. -/
theorem answer_of_settled {P : State → Prop} {x : Port} {c : HostCommand} {tag : Tag} {s t : State}
    {r : Reply} (h : r.Answers P) (settled : settleReply x c tag s r = t)
    (good : (hostPort x t).response.status = .ok ∨ (hostPort x t).response.status = .pending) :
    ∃ response u, P u ∧ t = fixResponse x response (renewAfter x c u) := by
  subst settled
  cases r with
  | answer st p u => exact ⟨⟨st, tag, p⟩, u, h, rfl⟩
  | refuse st =>
    have fixed : (hostPort x (settleReply x c tag s (.refuse st))).response.status = st :=
      congrArg (fun p : HostPort => p.response.status) (hostPort_setHostPort_same ..)
    rw [fixed] at good
    rcases good with rfl | rfl <;> cases h
  | silent u =>
    have reset : (hostPort x u).response.status = .resetDone := h x
    rcases good with ok | pending
    · cases reset.symm.trans ok
    · cases reset.symm.trans pending

theorem alwaysRenews_iff (c : HostCommand) :
    alwaysRenews c = true ↔ c = .renew ∨ c = .setLease := by cases c <;> decide

/-- The lease that an answer leaves in an OPEN session (R128). -/
theorem session_answered {x : Port} {l : Lease} {s : State} (c : HostCommand) (r : Response)
    (h : session x s = .opened l) :
    session x (fixResponse x r (renewAfter x c s))
      = .opened (l.renewedBy c s.tmb.counter) := by
  change session x (renewAfter x c s) = _
  rw [renewAfter_of_opened c h, session_setSession, if_pos rfl]

/-- Settles O7: no admitted command but CLOSE, and SET_LEASE in the interval, changes the lease
before its answer, so what the answer leaves is what `renewedBy` makes of it. -/
theorem renewalByAnswer : Obligations.RenewalByAnswer := by
  intro x c tag args s t l taken opened again close run good
  rw [exec_commandRow, takeCommand_of_takesFrame _ _ _ taken] at run
  have answers := judge_answers (x := x) (c := c)
    (commandBody_answers (s := endFrame x s) args opened close again)
  obtain ⟨response, u, ⟨counter, m, held, policy, same⟩, rfl⟩ :=
    answer_of_settled answers (Host.Outcome.next.inj run) good
  refine ⟨_, session_answered c response held, ?_⟩
  rw [counter, endFrame_tmb, Lease.renewedBy, policy]
  by_cases renews : l.policy = .renewAny ∨ c = .renew ∨ c = .setLease
  · rw [if_pos renews, if_pos (renews.imp_right (alwaysRenews_iff c).mpr)]
    exact ⟨rfl, rfl, rfl, rfl, fun other => by rw [same other]; rfl⟩
  · rw [if_neg renews, if_neg (renews ∘ Or.imp_right (alwaysRenews_iff c).mp)]
    exact same fun set => renews (.inr (.inr set))

end Sys2Proof.Machine
end

section
/-! ## Clock checks (R148 to R150) -/

namespace Sys2Proof.Machine

open Sys2Proof.Safety

/-! ### CHECK_CLOCK -/

/-- CHECK_CLOCK in IDLE starts a check (R149). -/
theorem checkClockCommand_of_none {x : Port} {s : State} (h : s.tmb.check = none) :
    checkClockCommand x [] s
      = .answer .ok [0] (s.setTmb { s.tmb with check := some (newCheck x) }) := by
  unfold checkClockCommand
  simp only [h]

/-- CHECK_CLOCK while a check runs joins it (R149). -/
theorem checkClockCommand_of_some {x : Port} {k : RunningCheck} {s : State}
    (h : s.tmb.check = some k) :
    checkClockCommand x [] s = .answer .ok [1]
      (s.setTmb { s.tmb with check := some { k with marks := k.marks.set x true } }) := by
  unfold checkClockCommand
  simp only [h]

/-! ### Verdicts (R150) -/

theorem verdictOf_oscSlow {n : Nat} (h : n ≤ 3827) : verdictOf n = .oscSlow := if_pos h

theorem verdictOf_good {n : Nat} (low : 3828 ≤ n) (high : n ≤ 3984) : verdictOf n = .good :=
  (if_neg (by omega)).trans (if_pos high)

theorem verdictOf_oscFast {n : Nat} (low : 3985 ≤ n) (high : n ≤ 8190) : verdictOf n = .oscFast :=
  (if_neg (by omega)).trans ((if_neg (by omega)).trans (if_pos (Nat.lt_succ_of_le high)))

/-! ### The events of a check (R150) -/

theorem refclkEdge_of_none {s : State} (h : s.tmb.check = none) : refclkEdge s = s := by
  unfold refclkEdge
  rw [h]

section

variable {s : State} {k : RunningCheck}

/-- The first edge opens the count. -/
theorem refclkEdge_of_awaitingEdge (h : s.tmb.check = some k) (phase : k.phase = .awaitingEdge) :
    refclkEdge s = s.setTmb { s.tmb with check := some ⟨.counting 0, k.marks, 0⟩ } := by
  unfold refclkEdge
  simp only [h, phase]

/-- Each further edge ends a period, and the 8th period completes the check. -/
theorem refclkEdge_of_counting {p : Nat} (h : s.tmb.check = some k)
    (phase : k.phase = .counting p) :
    refclkEdge s = if p + 1 < 8
      then s.setTmb { s.tmb with check := some ⟨.counting (p + 1), k.marks, k.ticks⟩ }
      else completeCheck k (verdictOf k.ticks) k.ticks s := by
  unfold refclkEdge
  simp only [h, phase]

theorem checkTickCountLimit_of_awaitingEdge (h : s.tmb.check = some k)
    (phase : k.phase = .awaitingEdge) :
    checkTickCountLimit s = completeCheck k .noReference 0 s := by
  unfold checkTickCountLimit
  simp only [h, phase]

theorem checkTickCountLimit_of_counting {p : Nat} (h : s.tmb.check = some k)
    (phase : k.phase = .counting p) :
    checkTickCountLimit s = completeCheck k .noReference 8191 s := by
  unfold checkTickCountLimit
  simp only [h, phase]
  rfl

end

/-- Settles O48: CHECK_CLOCK by the check it meets, the events by the phase of the check. -/
theorem clockChecks : Obligations.ClockChecks := by
  refine ⟨fun x tag s taken => ⟨fun starting => ?_, fun past closed => ?_, fun admitted => ?command⟩,
    fun s idle => congrArg _ (refclkEdge_of_none idle), fun s k running done ends => ?events⟩
  · exact congrArg _ (takeCommand_notReady _ tag _ taken starting rfl)
  · exact congrArg _ (takeCommand_closed tag _ taken past closed rfl (by decide) (by decide))
  case command =>
    have admits := admits_of_admitted .checkClock admitted
    refine ⟨fun idle => ?_, fun k running => ?_⟩
    · have starts := checkClockCommand_of_none (x := x) (s := endFrame x s) idle
      cases x <;> exact congrArg _ (takeCommand_answer tag admits starts)
    · have joins := checkClockCommand_of_some (x := x) (s := endFrame x s) running
      exact congrArg _ (takeCommand_answer tag admits joins)
  case events =>
    have completes (v : ClockVerdict) (n : Nat) : completeCheck k v n s = done v n :=
      (ends v n).symm
    refine ⟨fun awaiting => ⟨congrArg _ (refclkEdge_of_awaitingEdge running awaiting), congrArg _
        ((checkTickCountLimit_of_awaitingEdge running awaiting).trans (completes ..))⟩,
      fun p counting => ?_⟩
    have edge := refclkEdge_of_counting running counting
    have eighth (last : p = 7) {v : ClockVerdict} (verdict : verdictOf k.ticks = v) :
        exec .refclkEdge s = .next (done v k.ticks) :=
      congrArg _ (edge.trans ((if_neg (by omega)).trans (verdict ▸ completes ..)))
    exact ⟨fun more => congrArg _ (edge.trans (if_pos (by omega))),
      fun last slow => eighth last (verdictOf_oscSlow slow),
      fun last low high => eighth last (verdictOf_good low high),
      fun last low high => eighth last (verdictOf_oscFast low high),
      congrArg _ ((checkTickCountLimit_of_counting running counting).trans (completes ..))⟩

end Sys2Proof.Machine
end

section
/-! ## READ_TIME, READ_SYNC and READ_CLOCK_CHECK (R145, R147, R152) -/

namespace Sys2Proof.Machine

open Sys2Proof.Safety

/-- The fields of READ_CLOCK_CHECK word 1 lie where Table 11-4 puts them. -/
theorem checkLayout_fields (r m : BitVec 1) (v : BitVec 3) (w : BitVec (1 + 1 + 11 + 3))
    (h : w = r ++ m ++ (0 : BitVec 11) ++ v) :
    (w.getLsbD 15 = r.getLsbD 0 ∧ w.getLsbD 14 = m.getLsbD 0)
      ∧ w.extractLsb' 3 11 = 0 ∧ w.extractLsb' 0 3 = v := by
  subst h
  constructor
  · simp only [-Nat.reduceAdd, BitVec.getLsbD_append, Nat.reduceLT, Nat.reduceSub, if_false,
      if_true, and_self]
  · simp [-Nat.reduceAdd, BitVec.extractLsb'_append_eq_of_le,
      BitVec.extractLsb'_append_eq_of_add_le]

/-- READ_CLOCK_CHECK word 1, field by field. -/
theorem checkWord_fields (x : Port) (t : Timebase) (w : Word) (h : w = checkWord x t) :
    w.getLsbD 15 = t.check.isSome ∧ w.getLsbD 14 = (t.check.any fun k => k.marks.get x)
      ∧ w.extractLsb' 3 11 = 0 ∧ w.extractLsb' 0 3 = verdictCode t.lastVerdict := by
  unfold checkWord at h
  obtain ⟨⟨runs, marked⟩, unused, verdict⟩ := checkLayout_fields _ _ _ w h
  exact ⟨runs.trans (getLsbD_bit _), marked.trans (getLsbD_bit _), unused, verdict⟩

theorem passesSession_readTime (v : Session) : passesSession v .readTime = true := by
  cases v <;> rfl

theorem passesSession_readSync (v : Session) : passesSession v .readSync = true := by
  cases v <;> rfl

/-- Settles O47: each command answers from the timebase that the end of the frame leaves, which is
the one it met. -/
theorem readTimebase : Obligations.ReadTimebase := by
  intro x tag s taken
  refine ⟨fun starting => ⟨?_, ?_, ?_⟩, fun past => ⟨?_, ?_, fun closed => ?_, fun opened => ?_⟩⟩
  · exact congrArg _ (takeCommand_notReady _ tag _ taken starting rfl)
  · exact congrArg _ (takeCommand_notReady _ tag _ taken starting rfl)
  · exact congrArg _ (takeCommand_notReady _ tag _ taken starting rfl)
  · exact congrArg _ (takeCommand_answer (body := readTimeCommand []) tag
      ⟨taken, past, passesSession_readTime _⟩ rfl)
  · exact congrArg _ (takeCommand_answer (body := readSyncCommand []) tag
      ⟨taken, past, passesSession_readSync _⟩ rfl)
  · exact congrArg _ (takeCommand_closed tag _ taken past closed rfl (by decide) (by decide))
  · exact ⟨checkWord x s.tmb, congrArg _ (takeCommand_answer (body := readClockCheckCommand x [])
      tag (admits_of_open _ taken past opened) rfl), checkWord_fields x s.tmb _ rfl⟩

end Sys2Proof.Machine
end

section
/-! ## Steps, ticks, timers and SYNC (R144, R146, R148) -/

namespace Sys2Proof.Machine

/-- Settles O1, by whether a command waits. -/
theorem stepRunsFrontCommand : Obligations.StepRunsFrontCommand := by
  refine ⟨fun c rest s waiting => ?_, fun s empty => ?_⟩
  · unfold step
    rw [waiting]
  · unfold step
    rw [empty]

/-! ### When a timer is due -/

theorem mem_allTimers (k : TimerKind) : k ∈ allTimers := by
  cases k with
  | settle | consent | checkLimit => decide
  | cadence n => revert n; decide
  | warning x | lease x => cases x <;> decide

theorem mem_dueTimers {k : TimerKind} {s : State} :
    k ∈ dueTimers s ↔ timerDue s k = true := by
  simp [dueTimers, mem_allTimers]

/-- A timer that runs on the counter is due when the counter stands at its expiry. -/
theorem mem_dueTimers_iff_expiry (k : TimerKind) {s : State} (h : k ≠ .checkLimit) :
    k ∈ dueTimers s ↔ timerExpiry k s = some s.tmb.counter := by
  rw [mem_dueTimers]
  cases k with
  | checkLimit => exact absurd rfl h
  | settle | cadence n | warning x | lease x | consent => exact beq_iff_eq

theorem timerExpiry_settle {s : State} {t : Time} :
    timerExpiry .settle s = some t ↔ ∃ m, s.cnv.state = .settling m t := by
  simp only [timerExpiry]
  cases s.cnv.state <;> simp

theorem timerExpiry_cadence {n : Fin 4} {s : State} {t : Time} :
    timerExpiry (.cadence n) s = some t ↔ (tget s.trg.timer n).run = .running t := by
  simp only [timerExpiry]
  cases (tget s.trg.timer n).run <;> simp

theorem timerExpiry_warning {x : Port} {s : State} {t : Time} :
    timerExpiry (.warning x) s = some t ↔ ∃ l, session x s = .opened l ∧ l.warning = some t := by
  simp only [timerExpiry]
  cases session x s <;> simp

theorem timerExpiry_lease {x : Port} {s : State} {t : Time} :
    timerExpiry (.lease x) s = some t ↔ ∃ l, session x s = .opened l ∧ l.expiry = t := by
  simp only [timerExpiry]
  cases session x s <;> simp

theorem timerExpiry_consent {s : State} {t : Time} :
    timerExpiry .consent s = some t ↔ ∃ c, s.ses.consent = some c ∧ c.expiry = t := by
  unfold timerExpiry
  exact Option.map_eq_some_iff

/-- The clock check's timer runs on the tick count (R150). -/
theorem checkLimit_mem_dueTimers {s : State} :
    .checkLimit ∈ dueTimers s ↔ ∃ k, s.tmb.check = some k ∧ 8191 ≤ k.ticks := by
  rw [mem_dueTimers]
  unfold timerDue
  cases s.tmb.check with
  | none => simp
  | some k =>
    simp only [Option.any_some, Option.some.injEq, exists_eq_left', decide_eq_true_eq]
    rfl

/-! ### Taking the timers that are due -/

theorem takeDue_of_none {s : State} (fuel : Nat) (h : dueTimers s = []) : takeDue fuel s = s := by
  cases fuel with
  | zero => rfl
  | succ fuel =>
    unfold takeDue
    simp only [h]

theorem takeDue_of_one {s : State} {k : TimerKind} (fuel : Nat) (h : dueTimers s = [k]) :
    takeDue (fuel + 1) s = takeDue fuel (takeTimer k s) := by
  rw [takeDue]
  simp only [h]

/-- A timer that is due alone, and leaves none due. -/
theorem takeDue_of_last {s : State} {k : TimerKind} (fuel : Nat) (h : dueTimers s = [k])
    (after : dueTimers (takeTimer k s) = []) : takeDue (fuel + 1) s = takeTimer k s :=
  (takeDue_of_one fuel h).trans (takeDue_of_none fuel after)

/-- The free value picks one of two timers that are due (assumption 6). -/
theorem takeDue_of_two {s : State} {a b : TimerKind} (fuel : Nat) (h : dueTimers s = [a, b]) :
    ∃ k o, (k = a ∧ o = b ∨ k = b ∧ o = a)
      ∧ takeDue (fuel + 1) s = takeDue fuel (takeTimer k (s.setChoice (s.choice + 1))) := by
  have picks : takeDue (fuel + 1) s = takeDue fuel
      (takeTimer ([a, b].getD (Config.duePick s.choice % 2) a) (s.setChoice (s.choice + 1))) := by
    rw [takeDue]
    simp only [h]
    rfl
  rcases Nat.mod_two_eq_zero_or_one (Config.duePick s.choice) with first | second
  · rw [first] at picks
    exact ⟨a, b, .inl ⟨rfl, rfl⟩, picks⟩
  · rw [second] at picks
    exact ⟨b, a, .inr ⟨rfl, rfl⟩, picks⟩

/-! ### The tick and SYNC -/

theorem tick_of_reset {s : State} (h : s.resetActive = true) : tick s = s := if_pos h

theorem tick_of_released {s : State} (h : s.resetActive = false) :
    tick s = takeDue 11 (s.setTmb (tickTimebase s.tmb)) := if_neg (by rw [h]; decide)

theorem syncEdge_rising {s : State} (released : s.resetActive = false)
    (low : s.tmb.syncLevel = .low) : syncEdge .high s = s.setTmb { s.tmb with
      syncLevel := .high, syncCapture := s.tmb.counter, syncCount := s.tmb.syncCount + 1 } := by
  simp [syncEdge, released, low]

theorem syncEdge_falling {s : State} (released : s.resetActive = false)
    (high : s.tmb.syncLevel = .high) :
    syncEdge .low s = s.setTmb { s.tmb with syncLevel := .low } := by
  simp [syncEdge, released, high]

/-- Settles O49: the tick by how many timers it leaves due, each timer by what it runs on, and SYNC
by its level. -/
theorem tickAndSync : Obligations.TickAndSync := by
  refine ⟨⟨fun s => tick_of_reset, fun s u released ticked => ?tick⟩, fun s => ?due,
    fun s released => ⟨fun low => congrArg _ (syncEdge_rising released low),
      fun high => congrArg _ (syncEdge_falling released high)⟩⟩
  case tick =>
    have counts : tick s = takeDue 11 u := ticked ▸ tick_of_released released
    rw [counts]
    refine ⟨takeDue_of_none 11, fun k => takeDue_of_last 10, fun a b both => ?_⟩
    obtain ⟨k, o, order, first⟩ := takeDue_of_two 10 both
    refine ⟨k, o, order, ?_⟩
    rintro v rfl
    rw [first]
    exact ⟨takeDue_of_none 10, takeDue_of_last 9⟩
  case due =>
    exact ⟨(mem_dueTimers_iff_expiry .settle nofun).trans timerExpiry_settle,
      fun n => (mem_dueTimers_iff_expiry (.cadence n) nofun).trans timerExpiry_cadence,
      fun x => (mem_dueTimers_iff_expiry (.warning x) nofun).trans timerExpiry_warning,
      fun x => (mem_dueTimers_iff_expiry (.lease x) nofun).trans timerExpiry_lease,
      (mem_dueTimers_iff_expiry .consent nofun).trans timerExpiry_consent,
      checkLimit_mem_dueTimers,
      rfl, fun n => rfl, fun x => ⟨rfl, rfl⟩, rfl, rfl⟩

end Sys2Proof.Machine
end

section
/-! ## Frames: encoding, the frame check and frames without a command (R155 to R158) -/

namespace Sys2Proof.Machine

open Sys2Proof.Safety

/-! ### The command header (Table 11-1) -/

/-- The fields of a command header lie where Table 11-1 puts them. -/
theorem commandHeader_fields (code : BitVec 7) (tag : Tag) (n : BitVec 5)
    (h : BitVec (7 + 4 + 5)) (e : h = code ++ tag ++ n) :
    h.extractLsb' 9 7 = code ∧ h.extractLsb' 5 4 = tag ∧ h.extractLsb' 0 5 = n := by
  subst e
  simp [-Nat.reduceAdd, BitVec.extractLsb'_append_eq_of_le, BitVec.extractLsb'_append_eq_of_add_le]

/-- What the receiver reads from a header is what the host put there. -/
theorem header_commandHeader (code : BitVec 7) (tag : Tag) (n : BitVec 5) :
    headerCode (commandHeader code tag n) = code ∧ headerTag (commandHeader code tag n) = tag
      ∧ headerCount (commandHeader code tag n) = n :=
  commandHeader_fields code tag n _ rfl

/-! ### The frame check (R157) -/

/-- A frame with any filler after it passes the frame check with what it was made of. -/
theorem frameCheck_commandFrame (code : BitVec 7) (tag : Tag) {args : List Word}
    (filler : List Word) (h : args.length ≤ 31) :
    frameCheck (commandFrame code tag args ++ filler) 0 = some ⟨code, tag, args⟩ := by
  obtain ⟨hcode, htag, hcount⟩ := header_commandHeader code tag (BitVec.ofNat 5 args.length)
  have count : (BitVec.ofNat 5 args.length).toNat = args.length := by
    rw [BitVec.toNat_ofNat, Nat.mod_eq_of_lt (by omega)]
  simp only [frameCheck, commandFrame, List.cons_append, List.append_assoc, hcode, htag, hcount,
    count, List.take_left, List.nil_append]
  simp

/-- The three cases of R157's table. -/
theorem frameCheck_eq_none_iff (words : List Word) (bits : BitVec 4) :
    frameCheck words bits = none ↔
      bits ≠ 0 ∨ words.length < 2
        ∨ words.length < (headerCount (words.getD 0 0)).toNat + 2
        ∨ words.getD ((headerCount (words.getD 0 0)).toNat + 1) 0
            ≠ crc16 (words.take ((headerCount (words.getD 0 0)).toNat + 1)) := by
  cases words with
  | nil => simp [frameCheck]
  | cons h rest =>
    simp only [frameCheck, List.getD_cons_zero, List.getD_cons_succ, List.take_succ_cons,
      List.length_cons]
    by_cases room : (headerCount h).toNat < rest.length
    · have whole : ¬ rest.length + 1 < 2 ∧ ¬ rest.length + 1 < (headerCount h).toNat + 2 := by
        omega
      simp [List.getElem?_eq_getElem room, Nat.succ_le_of_lt room, whole, imp_iff_not_or]
    · have short : rest.length + 1 < (headerCount h).toNat + 2 := by omega
      simp [short, room]

/-! ### Codes (Table 11-2) -/

theorem commandOfCode_commandCode (c : HostCommand) : commandOfCode (commandCode c) = some c := by
  cases c <;> rfl

theorem commandOfCode_of_unknown {code : BitVec 7} (h : ∀ c, commandCode c ≠ code) :
    commandOfCode code = none :=
  List.find?_eq_none.mpr fun c _ => by simpa using h c

theorem commandRow_ne_frameError (x y : Port) (c : HostCommand) (tag : Tag)
    (args words : List Word) (bits : BitVec 4) :
    commandRow x c tag args ≠ .frameError y words bits := by cases c <;> exact nofun

/-- The end of a frame is a FRAME_ERROR exactly where the frame check fails. -/
theorem decodeFrame_eq_frameError_iff (x : Port) (words : List Word) (bits : BitVec 4) :
    decodeFrame x words bits = .frameError x words bits ↔ frameCheck words bits = none := by
  unfold decodeFrame
  split
  · next failed => exact iff_of_true rfl failed
  · next f passed =>
    refine iff_of_false ?_ (by rw [passed]; exact nofun)
    split
    · exact nofun
    · exact commandRow_ne_frameError x x _ _ _ words bits

/-- Settles O3: the frame passes the frame check and its code names the command. -/
theorem frameRoundTrip : Obligations.FrameRoundTrip := by
  intro x c tag args filler fits
  unfold decodeFrame encodeFrame
  simp only [frameCheck_commandFrame _ _ _ fits, commandOfCode_commandCode]

/-- Settles O4: what decodes to each of the two rows, and what the row leaves. -/
theorem framesWithoutCommand : Obligations.FramesWithoutCommand := by
  refine ⟨⟨fun x words bits => (decodeFrame_eq_frameError_iff ..).trans
      (frameCheck_eq_none_iff ..), fun x words bits s taken => ?error⟩,
    fun x code tag args filler unknown fits => ?decoded, fun x code tag args s taken => ?refused⟩
  case error =>
    have received : frameErrorTag words = (words.head?.map headerTag).getD 0 := by
      cases words <;> rfl
    rw [← received]
    exact congrArg _ (atFrameEnd_of_takesFrame _ taken)
  case decoded =>
    unfold decodeFrame
    simp only [frameCheck_commandFrame _ _ _ fits, commandOfCode_of_unknown unknown]
  case refused => exact congrArg _ (atFrameEnd_of_takesFrame _ taken)

end Sys2Proof.Machine
end

section
/-! ## The order of the checks and what a refusal leaves (R133, R158, R159, R161) -/

namespace Sys2Proof.Machine

open Sys2Proof.Safety

/-! ### STATUS, IDENT and REPEAT pass the start-state and session checks everywhere -/

theorem takenInStarting_iff (c : HostCommand) :
    takenInStarting c = true ↔ c = .status ∨ c = .ident ∨ c = .repeatLast := by
  cases c <;> decide

theorem sessionAdmits_of_takenInStarting (v : Session) {c : HostCommand}
    (h : takenInStarting c = true) : sessionAdmits v c = true := by
  rcases (takenInStarting_iff c).mp h with rfl | rfl | rfl <;> cases v <;> rfl

/-- STATUS, IDENT and REPEAT are judged by their own checks in every converter and session state. -/
theorem takeCommand_of_takenInStarting {x : Port} {c : HostCommand} {s : State} (tag : Tag)
    (body : State → Reply) (taken : takesFrame x s = true) (h : takenInStarting c = true) :
    takeCommand x c tag body s = settleReply x c tag (endFrame x s) (body (endFrame x s)) := by
  rw [takeCommand_of_takesFrame c tag body taken]
  simp [judge, startAdmits, h, sessionAdmits_of_takenInStarting]

/-! ### The argument count (R159) -/

theorem defineCommand_of_count {x : Port} {args : List Word} {s : State}
    (h : acceptedCount .defineSequence args.length = false) :
    defineCommand x args s = .refuse .badArgument := by
  unfold defineCommand
  split
  · refine if_neg fun fits => ?_
    simp [acceptedCount] at h
    omega
  · rfl

/-- A command with a count that Table 11-2 does not give it. -/
theorem commandBody_of_count {x : Port} {c : HostCommand} {args : List Word} {s : State}
    (h : acceptedCount c args.length = false) :
    commandBody x c args s = .refuse .badArgument := by
  cases c with
  | defineSequence => exact defineCommand_of_count h
  -- Every other command matches a list of one length before all else.
  | _ =>
    dsimp only [commandBody, openCommand, closeCommand, renewCommand, setLeaseCommand,
      resetDeviceCommand, denyResetCommand, statusCommand, identCommand, repeatCommand,
      ackEventsCommand, setAlertMaskCommand, claimCommand, releaseCommand, setChannelCommand,
      getChannelCommand, deleteCommand, enableCommand, stopCommand, haltCommand, runCommand,
      ownSequence, getSequenceCommand, convertNowCommand, setTriggerCommand, setCadenceCommand,
      startCadenceCommand, stopCadenceCommand, readResultsCommand, flushCommand, markCommand,
      setWatermarkCommand, readSnapshotCommand, setMonitorCommand, monitorOnCommand,
      monitorOffCommand, getMonitorCommand, withMonitor, tripAckCommand, forceTripCommand,
      tripStatusCommand, readTimeCommand, readSyncCommand, checkClockCommand,
      readClockCheckCommand]
    split
    · cases h
    · rfl

/-- Settles O5: each clause by the first check that fails. -/
theorem checkOrder : Obligations.CheckOrder := by
  refine ⟨fun x c tag args s taken starting notStatus notIdent notRepeat => ?notReady,
    fun x c tag args s taken past closed => ?noSession,
    fun x c tag args s taken past passes count => ?count,
    fun x c tag args s taken always nonempty => ?always⟩ <;> rw [exec_commandRow]
  case notReady =>
    have late : takenInStarting c = false := by
      rw [← Bool.not_eq_true, takenInStarting_iff]
      rintro (h | h | h)
      · exact notStatus h
      · exact notIdent h
      · exact notRepeat h
    rw [takeCommand_notReady c tag _ taken starting late]
  case noSession => rw [takeCommand_noSession c tag _ taken past closed]
  case count => rw [takeCommand_refuse tag ⟨taken, past, passes⟩ (commandBody_of_count count)]
  case always =>
    have count : acceptedCount c args.length = false := by
      rcases always with rfl | rfl | rfl <;> simpa [acceptedCount] using nonempty
    rw [takeCommand_of_takenInStarting tag _ taken ((takenInStarting_iff c).mpr always),
      commandBody_of_count count]
    rfl

/-! ### What a reply leaves pending (R158, R160) -/

/-- Only `refuse` gives a refusal status: an answer has another, and a command that leaves no
response of its own has reset the device, which leaves RESET_DONE pending at both ports. -/
def Reply.RefusesPlainly : Reply → Prop
  | .refuse _ => True
  | .answer st _ _ => isRefusal st = false
  | .silent t => ∀ x, (hostPort x t).response.status = .resetDone

theorem closeCommand_refusesPlainly (x : Port) (args : List Word) (s : State) :
    (closeCommand x args s).RefusesPlainly := by
  unfold closeCommand
  split
  · split
    · next asked =>
      unfold endSession
      rw [if_pos asked]
      exact deviceReset_spares _
    · exact rfl
  · trivial

theorem resetDeviceCommand_refusesPlainly (x : Port) (args : List Word) (s : State) :
    (resetDeviceCommand x args s).RefusesPlainly := by
  unfold resetDeviceCommand
  repeat' split
  any_goals trivial
  · exact deviceReset_spares s
  · exact deviceReset_spares s

theorem commandBody_refusesPlainly {x : Port} {c : HostCommand} (args : List Word) (s : State)
    (again : c ≠ .repeatLast) : (commandBody x c args s).RefusesPlainly := by
  cases c with
  | repeatLast => exact absurd rfl again
  | closeSession => exact closeCommand_refusesPlainly x args s
  | resetDevice => exact resetDeviceCommand_refusesPlainly x args s
  -- Every other command refuses or answers OK on each path.
  | _ =>
    dsimp only [commandBody, openCommand, renewCommand, setLeaseCommand, denyResetCommand,
      statusCommand, identCommand, ackEventsCommand, setAlertMaskCommand, claimCommand,
      releaseCommand, setChannelCommand, checkedWrite, getChannelCommand, defineCommand,
      checkedDefine, deleteCommand, enableCommand, stopCommand, haltCommand, runCommand,
      ownSequence, getSequenceCommand, convertNowCommand, setTriggerCommand, setCadenceCommand,
      startCadenceCommand, stopCadenceCommand, readResultsCommand, readResults, flushCommand,
      markCommand, setWatermarkCommand, readSnapshotCommand, setMonitorCommand, monitorOnCommand,
      monitorOffCommand, getMonitorCommand, withMonitor, tripAckCommand, forceTripCommand,
      tripStatusCommand, readTimeCommand, readSyncCommand, checkClockCommand,
      readClockCheckCommand]
    repeat' split
    all_goals trivial

theorem judge_refusesPlainly {x : Port} {c : HostCommand} {body : State → Reply} {s : State}
    (h : (body s).RefusesPlainly) : (judge x c body s).RefusesPlainly := by
  unfold judge
  split
  · split
    · exact h
    · trivial
  · trivial

/-- A refusal status left pending is that of a refusal, which left nothing else. -/
theorem settleReply_of_isRefusal {x : Port} {c : HostCommand} {tag : Tag} {s t : State} {r : Reply}
    (h : r.RefusesPlainly) (settled : settleReply x c tag s r = t)
    (bad : isRefusal (hostPort x t).response.status = true) :
    t = fixResponse x ⟨(hostPort x t).response.status, tag, []⟩ s := by
  subst settled
  cases r with
  | refuse st => simp [settleReply, fixResponse]
  | answer st p u =>
    have good : isRefusal st = false := h
    simp [settleReply, fixResponse, good] at bad
  | silent u =>
    have reset : (hostPort x u).response.status = .resetDone := h x
    simp [settleReply, reset, isRefusal] at bad

/-- Settles O6: every command but REPEAT refuses plainly. -/
theorem refusalsChangeNothing : Obligations.RefusalsChangeNothing := by
  intro x c tag args s taken again
  refine ⟨_, exec_commandRow .., settleReply_of_isRefusal ?_
    (takeCommand_of_takesFrame c tag _ taken).symm⟩
  exact judge_refusesPlainly (commandBody_refusesPlainly args _ again)

end Sys2Proof.Machine
end

section
/-! ## The receiver and data-out (R153, R154, R160, R162) -/

namespace Sys2Proof.Machine

open Sys2Proof.Safety

theorem atFrameEnd_of_reset {x : Port} {s : State} (f : State → State)
    (h : s.resetActive = true) : atFrameEnd x f s = s := if_pos h

/-- In DISCARDING no frame is judged (R162). -/
theorem atFrameEnd_of_discarding {x : Port} {s : State} (f : State → State)
    (released : s.resetActive = false) (h : (hostPort x s).receiver = .discarding) :
    atFrameEnd x f s = endFrame x s := by
  simp [atFrameEnd, released, h]

/-- Settles O8: each row by the state of the receiver. -/
theorem frameReceiver : Obligations.FrameReceiver := by
  refine ⟨fun x s released idle => congrArg Host.Outcome.next ?begins,
    fun x s released discarding => congrArg Host.Outcome.next ?ends,
    fun x c tag args s reset => ?_, fun x c tag args s released discarding => ?_⟩
  case begins => simp [frameBegin, released, idle]
  case ends => simp [discardedFrameEnd, released, discarding, endFrame]
  · rw [exec_commandRow, takeCommand, atFrameEnd_of_reset _ reset]
  · rw [exec_commandRow, takeCommand, atFrameEnd_of_discarding _ released discarding]
    rfl

/-- The fields of a response header lie where Table 11-1 puts them. -/
theorem responseLayout_fields (st : BitVec 6) (tag : Tag) (n : BitVec 6) (h : BitVec (6 + 4 + 6))
    (e : h = st ++ tag ++ n) :
    h.extractLsb' 10 6 = st ∧ h.extractLsb' 6 4 = tag ∧ h.extractLsb' 0 6 = n := by
  subst e
  simp [-Nat.reduceAdd, BitVec.extractLsb'_append_eq_of_le, BitVec.extractLsb'_append_eq_of_add_le]

/-- Word `i` of a response, or filler beyond its end (R154). -/
theorem dataOutWord_response (r : Response) (i : Nat) : dataOutWord (.response r) i
    = some ((responseHeader r :: (r.payload ++ [crc16 (responseHeader r :: r.payload)])).getD i
        0xFFFF) := rfl

/-- Settles O9: the header, then the payload, the CRC-16 and filler by the place of the word. -/
theorem dataOutWords : Obligations.DataOutWords := by
  refine ⟨fun r => ?_, fun i => rfl⟩
  obtain ⟨status, tag, length⟩ := responseLayout_fields (statusCode r.status) r.tag
    (BitVec.ofNat 6 r.payload.length) (responseHeader r) rfl
  refine ⟨responseHeader r, status, tag, length, rfl, fun i within => ?payload, ?crc,
    fun i beyond => ?filler⟩
  case payload =>
    rw [dataOutWord_response, List.getD_cons_succ, List.getD_append _ _ _ _ within,
      List.getD_eq_getElem _ _ within, List.getElem?_eq_getElem within]
  case crc =>
    rw [dataOutWord_response, List.getD_cons_succ, List.getD_append_right _ _ _ _ le_rfl,
      Nat.sub_self, List.getD_cons_zero]
  case filler =>
    rw [dataOutWord_response, List.getD_eq_default]
    simp only [List.length_cons, List.length_append, List.length_nil]
    omega

end Sys2Proof.Machine
end

section
/-! ## STATUS, IDENT, REPEAT, ACK_EVENTS and SET_ALERT_MASK (R161, R163, R164, R167 to R169) -/

namespace Sys2Proof.Machine

open Sys2Proof.Safety

/-! ### STATUS -/

/-- The fields of STATUS word 1 lie where Table 11-4 puts them. -/
theorem statusLayout_fields (ready fault trip : BitVec 1) (own other consent : BitVec 2)
    (w : BitVec (1 + 1 + 2 + 2 + 2 + 1 + 7))
    (h : w = ready ++ fault ++ own ++ other ++ consent ++ trip ++ (0 : BitVec 7)) :
    (w.getLsbD 15 = ready.getLsbD 0 ∧ w.getLsbD 14 = fault.getLsbD 0
        ∧ w.getLsbD 7 = trip.getLsbD 0)
      ∧ w.extractLsb' 12 2 = own ∧ w.extractLsb' 10 2 = other ∧ w.extractLsb' 8 2 = consent
      ∧ w.extractLsb' 0 7 = 0 := by
  subst h
  constructor
  · simp only [-Nat.reduceAdd, BitVec.getLsbD_append, Nat.reduceLT, Nat.reduceSub, if_false,
      if_true, and_self]
  · simp [-Nat.reduceAdd, BitVec.extractLsb'_append_eq_of_le,
      BitVec.extractLsb'_append_eq_of_add_le]

/-- The four words of STATUS, read after the end of the frame, are those of the state before it. -/
theorem statusCommand_endFrame (x : Port) (s : State) :
    statusCommand x [] (endFrame x s) = .answer .ok [statusWord x s,
      (hostPort x s).flags.setWidth 16, (hostPort x s).mask.setWidth 16, queueWord x s]
      (endFrame x s) := by cases x <;> rfl

theorem identCommand_nil (x : Port) (s : State) : identCommand x [] s
    = .answer .ok [0x6A71, 2432, 1, match x with | .A => 1 | .B => 2] s := by cases x <;> rfl

/-- REPEAT in every converter and session state (R159, R161). -/
theorem settleReply_repeat (x : Port) (tag : Tag) (args : List Word) (s : State) :
    settleReply x .repeatLast tag (endFrame x s) (repeatCommand args (endFrame x s))
      = if args = [] then endFrame x s else refused x .badArgument tag s := by
  cases args with
  | nil => rfl
  | cons w ws => exact (if_neg (List.cons_ne_nil w ws)).symm

/-- Settles O50: each of the three is judged by its own checks, in the state that the end of the
frame leaves. -/
theorem statusIdentRepeat : Obligations.StatusIdentRepeat := by
  refine ⟨fun x tag s taken => ⟨?status, ?ident⟩, fun x tag args s taken => ?again⟩
  case status =>
    obtain ⟨⟨ready, fault, trip⟩, own, other, consent, unused⟩ :=
      statusLayout_fields _ _ _ _ _ _ (statusWord x s) rfl
    obtain ⟨count, gap, delivered⟩ := summaryLayout_fields _ _ (queueWord x s) rfl
    refine ⟨statusWord x s, queueWord x s, congrArg Host.Outcome.next ?_,
      ready.trans (getLsbD_bit _), fault.trans (getLsbD_bit _), own, other, consent,
      trip.trans (getLsbD_bit _), unused, count, gap, delivered⟩
    rw [takeCommand_of_takenInStarting tag _ taken rfl, statusCommand_endFrame]
    rfl
  case ident =>
    refine congrArg Host.Outcome.next ?_
    rw [takeCommand_of_takenInStarting tag _ taken rfl, identCommand_nil]
    rfl
  case again =>
    exact congrArg Host.Outcome.next
      ((takeCommand_of_takenInStarting tag _ taken rfl).trans (settleReply_repeat ..))

/-! ### ACK_EVENTS and SET_ALERT_MASK -/

/-- A flag set has no bit above bit 10 (R167). -/
theorem flagSetOf_eq (w : Word) :
    flagSetOf w = if w.toNat < 2048 then some (w.setWidth 11) else none := by
  have unused : w.extractLsb' 11 5 = 0 ↔ w.toNat < 2048 := by
    rw [← BitVec.toNat_inj, BitVec.extractLsb'_toNat, Nat.shiftRight_eq_div_pow]
    have := w.isLt
    simp
    omega
  unfold flagSetOf
  simp only [unused]
  rfl

/-- Flags, mask and ALERT written in the event that ends the frame (R169). -/
theorem setFlagsMask_endFrame (x : Port) (flags mask : FlagSet) (s : State) :
    setFlagsMask x flags mask (endFrame x s) = setHostPort x { hostPort x s with
      receiver := .idle, dataOut := .undriven, flags := flags, mask := mask
      alert := flags &&& mask != 0 } s := by
  simp [setFlagsMask, endFrame, alertActive]

/-- ACK_EVENTS with a flag set (R167). -/
theorem ackEventsCommand_of_lt {x : Port} {w : Word} {s : State} (h : w.toNat < 2048) :
    ackEventsCommand x [w] (endFrame x s)
      = .answer .ok [((hostPort x s).flags &&& ~~~(w.setWidth 11)).setWidth 16]
          (setHostPort x { hostPort x s with
            receiver := .idle, dataOut := .undriven
            flags := (hostPort x s).flags &&& ~~~(w.setWidth 11)
            alert := (hostPort x s).flags &&& ~~~(w.setWidth 11) &&& (hostPort x s).mask != 0 }
            s) := by
  unfold ackEventsCommand
  simp only [flagSetOf_eq, if_pos h, setFlagsMask_endFrame]
  simp [endFrame, flagWord]

/-- SET_ALERT_MASK with a flag set (R168). -/
theorem setAlertMaskCommand_of_lt {x : Port} {w : Word} {s : State} (h : w.toNat < 2048) :
    setAlertMaskCommand x [w] (endFrame x s)
      = .answer .ok [] (setHostPort x { hostPort x s with
          receiver := .idle, dataOut := .undriven, mask := w.setWidth 11
          alert := (hostPort x s).flags &&& w.setWidth 11 != 0 } s) := by
  unfold setAlertMaskCommand
  simp only [flagSetOf_eq, if_pos h, setFlagsMask_endFrame]
  simp [endFrame]

theorem ackEventsCommand_of_le {x : Port} {w : Word} {s : State} (h : 2048 ≤ w.toNat) :
    ackEventsCommand x [w] s = .refuse .badArgument := by
  unfold ackEventsCommand
  simp only [flagSetOf_eq, if_neg (Nat.not_lt.mpr h)]

theorem setAlertMaskCommand_of_le {x : Port} {w : Word} {s : State} (h : 2048 ≤ w.toNat) :
    setAlertMaskCommand x [w] s = .refuse .badArgument := by
  unfold setAlertMaskCommand
  simp only [flagSetOf_eq, if_neg (Nat.not_lt.mpr h)]

/-- Settles O51: the session decides, then whether the argument is a flag set. -/
theorem eventsAndMask : Obligations.EventsAndMask := by
  refine fun x tag w s taken past => ⟨fun closed => ?closed,
    fun opened => ⟨fun outside => ?outside, fun fits f remaining => ?fits⟩⟩
  case closed =>
    exact ⟨congrArg _ (takeCommand_closed tag _ taken past closed rfl (by decide) (by decide)),
      congrArg _ (takeCommand_closed tag _ taken past closed rfl (by decide) (by decide))⟩
  case outside =>
    have admits (c : HostCommand) : Admits x c s := admits_of_open c taken past opened
    exact ⟨congrArg _ (takeCommand_refuse tag (admits _) (ackEventsCommand_of_le outside)),
      congrArg _ (takeCommand_refuse tag (admits _) (setAlertMaskCommand_of_le outside))⟩
  case fits =>
    have admits (c : HostCommand) : Admits x c s := admits_of_open c taken past opened
    subst remaining
    exact ⟨congrArg _ (takeCommand_answer tag (admits _) (ackEventsCommand_of_lt fits)),
      congrArg _ (takeCommand_answer tag (admits _) (setAlertMaskCommand_of_lt fits))⟩

end Sys2Proof.Machine
end

section
/-! ## What no command touches: the queue of waiting commands and the choice counter

The part's blocks neither read nor write these two fields: each shared operation equals setters of
other fields (Laws/Touches), and each command is made of those operations. -/

namespace Sys2Proof.Machine

/-- The two fields outside the part's blocks: the commands that wait and the choice counter. -/
def State.outside (s : State) : List Instr × Nat := (s.pending, s.choice)

theorem State.outside_eq_iff {s t : State} :
    t.outside = s.outside ↔ t.pending = s.pending ∧ t.choice = s.choice := Prod.mk_inj

/-! ### Shared operations -/

theorem renewAfter_outside (x : Port) (c : HostCommand) (s : State) :
    (renewAfter x c s).outside = s.outside :=
  let ⟨_, h⟩ := renewAfter_touches x c s
  h ▸ rfl

theorem appendNotice_outside (x : Port) (b : NoticeBody) (t : Time) (s : State) :
    (appendNotice x b t s).outside = s.outside :=
  let ⟨_, _, h⟩ := appendNotice_touches x b t s
  h ▸ rfl

theorem addCauses_outside (c : CauseSet) (s : State) : (addCauses c s).outside = s.outside :=
  let ⟨_, _, _, h⟩ := addCauses_touches c s
  h ▸ rfl

theorem removeCauses_outside (c : CauseSet) (s : State) :
    (removeCauses c s).outside = s.outside :=
  let ⟨_, _, _, h⟩ := removeCauses_touches c s
  h ▸ rfl

theorem dispatchIfFree_outside (s : State) : (dispatchIfFree s).outside = s.outside :=
  let ⟨_, _, _, h⟩ := dispatchIfFree_touches s
  h ▸ rfl

theorem releaseConverter_outside (s : State) : (releaseConverter s).outside = s.outside :=
  let ⟨_, _, _, h⟩ := releaseConverter_touches s
  h ▸ rfl

theorem cutReport_outside (m : Measurement) (s : State) : (cutReport m s).outside = s.outside :=
  let ⟨_, _, _, h⟩ := cutReport_touches m s
  h ▸ rfl

theorem takeOutcome_outside (o : Measured) (s : State) : (takeOutcome o s).outside = s.outside :=
  let ⟨_, _, _, _, _, _, _, h⟩ := takeOutcome_touches o s
  h ▸ rfl

theorem promptRequest_outside (e : PromptEntry) (s : State) :
    (promptRequest e s).outside = s.outside :=
  let ⟨_, _, _, h⟩ := promptRequest_touches e s
  h ▸ rfl

theorem abandonWhere_outside (p : Measurement → Bool) (s : State) :
    (abandonWhere p s).outside = s.outside :=
  let ⟨_, _, _, h⟩ := abandonWhere_touches p s
  h ▸ rfl

theorem reportFall_outside (before after : Nat) (s : State) :
    (reportFall before after s).outside = s.outside :=
  let ⟨_, _, _, h⟩ := reportFall_touches before after s
  h ▸ rfl

theorem grantResource_outside (r : Resource) (x : Port) (s : State) :
    (grantResource r x s).outside = s.outside :=
  let ⟨_, _, _, _, h⟩ := grantResource_touches r x s
  h ▸ rfl

theorem releaseResource_outside (r : Resource) (s : State) :
    (releaseResource r s).outside = s.outside :=
  let ⟨_, _, _, _, _, _, h⟩ := releaseResource_touches r s
  h ▸ rfl

theorem triggerArrival_outside (n : SourceId) (t : Time) (s : State) :
    (triggerArrival n t s).outside = s.outside :=
  let ⟨_, _, _, _, _, h⟩ := triggerArrival_touches n t s
  h ▸ rfl

theorem unbindKind_outside (k : SeqKind) (s : State) : (unbindKind k s).outside = s.outside :=
  let ⟨_, h⟩ := unbindKind_touches k s
  h ▸ rfl

theorem bindKind_outside (k : SeqKind) (id : SeqId) (s : State) :
    (bindKind k id s).outside = s.outside := by
  cases k <;> rfl

theorem teardown_outside (x : Port) (e : SessionEnd) (s : State) :
    (teardown x e s).outside = s.outside :=
  let ⟨_, _, _, _, _, _, _, _, _, _, h⟩ := teardown_touches x e s
  h ▸ rfl

theorem endSession_outside (x : Port) (e : SessionEnd) (s : State) :
    (endSession x e s).outside = s.outside := by
  unfold endSession
  cases e with
  | close =>
    dsimp only
    have torn := teardown_outside x .close (setSession x .closed s)
    split <;> exact torn
  | lapse t =>
    dsimp only
    have torn := teardown_outside x (.lapse t) (setSession x .lapsed s)
    split <;> exact torn

theorem takeLevels_outside (l : LineLevels) (s : State) : (takeLevels l s).outside = s.outside := by
  unfold takeLevels
  dsimp only
  split
  · exact addCauses_outside ..
  · rfl

theorem invalidateForWrite_outside (c : ExtChannel) (before after : Descriptor) (s : State) :
    (invalidateForWrite c before after s).outside = s.outside := by
  unfold invalidateForWrite
  dsimp only
  repeat' split
  all_goals rfl

theorem completeCheck_outside (k : RunningCheck) (v : ClockVerdict) (n : Nat) (s : State) :
    (completeCheck k v n s).outside = s.outside := by
  have told (x : Port) (u : State) : (tellMarked k x u).outside = u.outside := by
    unfold tellMarked
    split <;> rfl
  exact (told .B _).trans (told .A _)

/-! ### Events that carry no command of a host -/

theorem resetnRelease_outside (l : LineLevels) (s : State) :
    (resetnRelease l s).outside = s.outside := by
  unfold resetnRelease
  split
  · exact takeLevels_outside l s
  · rfl

theorem endOfTrimLoad_outside (s : State) : (endOfTrimLoad s).outside = s.outside := by
  unfold endOfTrimLoad
  split
  · exact releaseConverter_outside _
  · rfl

theorem discardedFrameEnd_outside (x : Port) (s : State) :
    (discardedFrameEnd x s).outside = s.outside := by
  unfold discardedFrameEnd
  repeat' split
  all_goals rfl

theorem frameBegin_outside (x : Port) (s : State) : (frameBegin x s).outside = s.outside := by
  unfold frameBegin
  repeat' split
  all_goals rfl

theorem lineTransition_outside (n : Fin 4) (level : Level) (s : State) :
    (lineTransition n level s).outside = s.outside := by
  unfold lineTransition
  dsimp only
  split
  · rfl
  · split
    · exact triggerArrival_outside ..
    · rfl

theorem cadenceExpiry_outside (n : Fin 4) (s : State) :
    (cadenceExpiry n s).outside = s.outside := by
  unfold cadenceExpiry
  dsimp only
  split
  · rfl
  · exact triggerArrival_outside ..

theorem tripinChange_outside (level : Level) (s : State) :
    (tripinChange level s).outside = s.outside := by
  unfold tripinChange
  split
  · rfl
  · dsimp only
    split
    · exact addCauses_outside ..
    · rfl

theorem syncEdge_outside (level : Level) (s : State) : (syncEdge level s).outside = s.outside := by
  unfold syncEdge
  split
  · rfl
  · cases level <;> rfl

theorem refclkEdge_outside (s : State) : (refclkEdge s).outside = s.outside := by
  unfold refclkEdge
  split
  · rfl
  · split
    · rfl
    · split
      · rfl
      · exact completeCheck_outside ..

theorem checkTickCountLimit_outside (s : State) : (checkTickCountLimit s).outside = s.outside := by
  unfold checkTickCountLimit
  split
  · rfl
  · split
    · exact completeCheck_outside ..
    · exact completeCheck_outside ..

theorem settleExpiry_outside (s : State) : (settleExpiry s).outside = s.outside := by
  unfold settleExpiry
  split <;> rfl

theorem sampleCompletion_outside (raw : Word) (s : State) :
    (sampleCompletion raw s).outside = s.outside := by
  unfold sampleCompletion
  split
  · dsimp only
    split
    · exact cutReport_outside ..
    · split
      · rfl
      · exact takeOutcome_outside ..
  all_goals rfl

theorem leaseWarning_outside (x : Port) (s : State) : (leaseWarning x s).outside = s.outside := by
  unfold leaseWarning
  repeat' split
  all_goals rfl

theorem leaseExpiry_outside (x : Port) (s : State) : (leaseExpiry x s).outside = s.outside := by
  unfold leaseExpiry
  split
  · exact endSession_outside ..
  · rfl
  · rfl

theorem consentWindowExpiry_outside (s : State) : (consentWindowExpiry s).outside = s.outside := by
  unfold consentWindowExpiry
  split <;> rfl

/-! ### The end of a frame -/

/-- The next state of a reply, if it holds one, has the same fields outside the blocks as `s`. -/
def Reply.KeepsOutside (s : State) : Reply → Prop
  | .refuse _ => True
  | .answer _ _ t => t.outside = s.outside
  | .silent t => t.outside = s.outside

/-- A reading command answers with the state it read. -/
theorem Reply.keepsOutside_self (s : State) (st : Status) (p : List Word) :
    (Reply.answer st p s).KeepsOutside s := rfl

theorem settleReply_outside {x : Port} {c : HostCommand} {tag : Tag} {s : State} {r : Reply}
    (h : r.KeepsOutside s) : (settleReply x c tag s r).outside = s.outside := by
  cases r with
  | refuse st => rfl
  | answer st p t => exact (renewAfter_outside x c t).trans h
  | silent t => exact h

theorem atFrameEnd_outside {x : Port} {f : State → State} (s : State)
    (h : ∀ s0, (f s0).outside = s0.outside) : (atFrameEnd x f s).outside = s.outside := by
  unfold atFrameEnd
  split
  · rfl
  · split
    · rfl
    · exact h _
    · exact h _

/-- A command keeps what its own checks and effect keep. -/
theorem takeCommand_outside {x : Port} {c : HostCommand} {body : State → Reply} (tag : Tag)
    (s : State) (h : ∀ s0, (body s0).KeepsOutside s0) :
    (takeCommand x c tag body s).outside = s.outside := by
  refine atFrameEnd_outside s fun s0 => settleReply_outside ?_
  unfold judge
  split
  · split
    · exact h s0
    · trivial
  · trivial

/-! ### Channels, claims and the timebase -/

theorem setChannelCommand_keepsOutside (x : Port) (args : List Word) (s : State) :
    (setChannelCommand x args s).KeepsOutside s := by
  have write (c range mode settle) :
      (Reply.answer .ok [] (writeDescriptor c range mode settle s)).KeepsOutside s :=
    invalidateForWrite_outside ..
  unfold setChannelCommand checkedWrite
  dsimp only
  repeat' split
  any_goals exact trivial
  all_goals exact write ..

theorem getChannelCommand_keepsOutside (args : List Word) (s : State) :
    (getChannelCommand args s).KeepsOutside s := by
  unfold getChannelCommand
  repeat' split
  any_goals exact trivial
  all_goals exact Reply.keepsOutside_self ..

theorem claimCommand_keepsOutside (x : Port) (args : List Word) (s : State) :
    (claimCommand x args s).KeepsOutside s := by
  unfold claimCommand
  split
  · split
    · trivial
    · split
      · split
        · exact Reply.keepsOutside_self ..
        · trivial
      · split
        · trivial
        · exact grantResource_outside ..
  · trivial

theorem releaseCommand_keepsOutside (x : Port) (args : List Word) (s : State) :
    (releaseCommand x args s).KeepsOutside s := by
  unfold releaseCommand
  repeat' split
  any_goals exact trivial
  all_goals exact releaseResource_outside ..

theorem readTimeCommand_keepsOutside (args : List Word) (s : State) :
    (readTimeCommand args s).KeepsOutside s := by
  unfold readTimeCommand
  split
  · exact Reply.keepsOutside_self ..
  · trivial

theorem readSyncCommand_keepsOutside (args : List Word) (s : State) :
    (readSyncCommand args s).KeepsOutside s := by
  unfold readSyncCommand
  split
  · exact Reply.keepsOutside_self ..
  · trivial

theorem checkClockCommand_keepsOutside (x : Port) (args : List Word) (s : State) :
    (checkClockCommand x args s).KeepsOutside s := by
  unfold checkClockCommand
  split
  · split <;> exact rfl
  · trivial

theorem readClockCheckCommand_keepsOutside (x : Port) (args : List Word) (s : State) :
    (readClockCheckCommand x args s).KeepsOutside s := by
  unfold readClockCheckCommand
  split
  · exact Reply.keepsOutside_self ..
  · trivial

theorem convertNowCommand_keepsOutside (x : Port) (args : List Word) (s : State) :
    (convertNowCommand x args s).KeepsOutside s := by
  unfold convertNowCommand
  repeat' split
  any_goals exact trivial
  all_goals exact promptRequest_outside ..

/-! ### Chapter 10 -/

theorem statusCommand_keepsOutside (x : Port) (args : List Word) (s : State) :
    (statusCommand x args s).KeepsOutside s := by
  unfold statusCommand
  split
  · exact Reply.keepsOutside_self ..
  · trivial

theorem identCommand_keepsOutside (x : Port) (args : List Word) (s : State) :
    (identCommand x args s).KeepsOutside s := by
  unfold identCommand
  split
  · exact Reply.keepsOutside_self ..
  · trivial

theorem repeatCommand_keepsOutside (args : List Word) (s : State) :
    (repeatCommand args s).KeepsOutside s := by
  unfold repeatCommand
  split
  · exact rfl
  · trivial

theorem ackEventsCommand_keepsOutside (x : Port) (args : List Word) (s : State) :
    (ackEventsCommand x args s).KeepsOutside s := by
  unfold ackEventsCommand
  repeat' split
  any_goals exact trivial
  all_goals exact rfl

theorem setAlertMaskCommand_keepsOutside (x : Port) (args : List Word) (s : State) :
    (setAlertMaskCommand x args s).KeepsOutside s := by
  unfold setAlertMaskCommand
  repeat' split
  any_goals exact trivial
  all_goals exact rfl

/-! ### Monitors -/

theorem withMonitor_keepsOutside {args : List Word} {s : State} {f : MonId → Reply}
    (h : ∀ i, (f i).KeepsOutside s) : (withMonitor args f).KeepsOutside s := by
  unfold withMonitor
  repeat' split
  any_goals exact trivial
  all_goals exact h _

theorem setMonitorCommand_keepsOutside (x : Port) (args : List Word) (s : State) :
    (setMonitorCommand x args s).KeepsOutside s := by
  unfold setMonitorCommand
  dsimp only
  repeat' split
  any_goals exact trivial
  all_goals exact rfl

theorem monitorOnCommand_keepsOutside (x : Port) (args : List Word) (s : State) :
    (monitorOnCommand x args s).KeepsOutside s := by
  refine withMonitor_keepsOutside fun i => ?_
  dsimp only
  repeat' split
  any_goals exact trivial
  all_goals exact rfl

theorem monitorOffCommand_keepsOutside (x : Port) (args : List Word) (s : State) :
    (monitorOffCommand x args s).KeepsOutside s := by
  refine withMonitor_keepsOutside fun i => ?_
  split
  · trivial
  · exact rfl

theorem getMonitorCommand_keepsOutside (args : List Word) (s : State) :
    (getMonitorCommand args s).KeepsOutside s :=
  withMonitor_keepsOutside fun _ => Reply.keepsOutside_self ..

/-! ### Results -/

theorem readResultsCommand_keepsOutside (x : Port) (args : List Word) (s : State) :
    (readResultsCommand x args s).KeepsOutside s := by
  unfold readResultsCommand readResults
  repeat' split
  any_goals exact trivial
  all_goals exact reportFall_outside ..

theorem flushCommand_keepsOutside (x : Port) (args : List Word) (s : State) :
    (flushCommand x args s).KeepsOutside s := by
  unfold flushCommand
  split
  · exact reportFall_outside ..
  · trivial

theorem markCommand_keepsOutside (x : Port) (args : List Word) (s : State) :
    (markCommand x args s).KeepsOutside s := by
  unfold markCommand
  repeat' split
  any_goals exact trivial
  all_goals exact appendNotice_outside ..

theorem setWatermarkCommand_keepsOutside (x : Port) (args : List Word) (s : State) :
    (setWatermarkCommand x args s).KeepsOutside s := by
  unfold setWatermarkCommand
  dsimp only
  repeat' split
  any_goals exact trivial
  all_goals exact rfl

theorem readSnapshotCommand_keepsOutside (args : List Word) (s : State) :
    (readSnapshotCommand args s).KeepsOutside s := by
  unfold readSnapshotCommand
  repeat' split
  any_goals exact trivial
  all_goals exact Reply.keepsOutside_self ..

/-! ### Sequences -/

theorem defineCommand_keepsOutside (x : Port) (args : List Word) (s : State) :
    (defineCommand x args s).KeepsOutside s := by
  unfold defineCommand checkedDefine
  repeat' split
  any_goals exact trivial
  all_goals exact bindKind_outside ..

theorem ownSequence_keepsOutside {x : Port} {args : List Word} {s : State}
    {f : SeqId → Sequence → Reply} (h : ∀ id q, (f id q).KeepsOutside s) :
    (ownSequence x args s f).KeepsOutside s := by
  unfold ownSequence
  repeat' split
  any_goals exact trivial
  all_goals exact h ..

theorem deleteCommand_keepsOutside (x : Port) (args : List Word) (s : State) :
    (deleteCommand x args s).KeepsOutside s := by
  refine ownSequence_keepsOutside fun id q => ?_
  split
  · exact unbindKind_outside ..
  · trivial

theorem enableSequence_outside (id : SeqId) (q : Sequence) (s : State) :
    (enableSequence id q s).outside = s.outside := by
  unfold enableSequence
  dsimp only
  split
  · rfl
  · rfl
  · exact dispatchIfFree_outside _

theorem enableCommand_keepsOutside (x : Port) (args : List Word) (s : State) :
    (enableCommand x args s).KeepsOutside s := by
  refine ownSequence_keepsOutside fun id q => ?_
  repeat' split
  any_goals exact trivial
  all_goals exact enableSequence_outside ..

theorem stopCommand_keepsOutside (x : Port) (args : List Word) (s : State) :
    (stopCommand x args s).KeepsOutside s := by
  refine ownSequence_keepsOutside fun id q => ?_
  split
  · trivial
  · change (stopSequence id q s).outside = s.outside
    unfold stopSequence
    split <;> rfl

theorem haltSequence_outside (x : Port) (id : SeqId) (q : Sequence) (s : State) :
    (haltSequence x id q s).outside = s.outside := by
  have withdrawn : (withdraw id q.state s).outside = s.outside := by
    cases q.state <;> rfl
  exact (appendNotice_outside ..).trans ((abandonWhere_outside ..).trans withdrawn)

theorem haltCommand_keepsOutside (x : Port) (args : List Word) (s : State) :
    (haltCommand x args s).KeepsOutside s := by
  refine ownSequence_keepsOutside fun id q => ?_
  split
  · trivial
  · exact haltSequence_outside ..

theorem runCommand_keepsOutside (x : Port) (args : List Word) (s : State) :
    (runCommand x args s).KeepsOutside s := by
  refine ownSequence_keepsOutside fun id q => ?_
  repeat' split
  any_goals exact trivial
  all_goals exact promptRequest_outside ..

theorem getSequenceCommand_keepsOutside (args : List Word) (s : State) :
    (getSequenceCommand args s).KeepsOutside s := by
  unfold getSequenceCommand
  repeat' split
  any_goals exact trivial
  all_goals exact Reply.keepsOutside_self ..

/-! ### Sessions and reset by consent -/

theorem openCommand_keepsOutside (x : Port) (args : List Word) (s : State) :
    (openCommand x args s).KeepsOutside s := by
  unfold openCommand
  repeat' split
  any_goals exact trivial
  all_goals exact rfl

theorem closeCommand_keepsOutside (x : Port) (args : List Word) (s : State) :
    (closeCommand x args s).KeepsOutside s := by
  unfold closeCommand
  repeat' split
  any_goals exact trivial
  all_goals exact endSession_outside ..

theorem renewCommand_keepsOutside (args : List Word) (s : State) :
    (renewCommand args s).KeepsOutside s := by
  unfold renewCommand
  split
  · exact Reply.keepsOutside_self ..
  · trivial

theorem setLeaseCommand_keepsOutside (x : Port) (args : List Word) (s : State) :
    (setLeaseCommand x args s).KeepsOutside s := by
  unfold setLeaseCommand
  repeat' split
  any_goals exact trivial
  all_goals exact rfl

theorem resetDeviceCommand_keepsOutside (x : Port) (args : List Word) (s : State) :
    (resetDeviceCommand x args s).KeepsOutside s := by
  unfold resetDeviceCommand
  repeat' split
  any_goals exact trivial
  all_goals exact rfl

theorem denyResetCommand_keepsOutside (x : Port) (args : List Word) (s : State) :
    (denyResetCommand x args s).KeepsOutside s := by
  unfold denyResetCommand
  repeat' split
  any_goals exact trivial
  all_goals exact rfl

/-! ### Trigger sources and the trip latch -/

theorem setTriggerCommand_keepsOutside (x : Port) (args : List Word) (s : State) :
    (setTriggerCommand x args s).KeepsOutside s := by
  unfold setTriggerCommand
  repeat' split
  any_goals exact trivial
  all_goals exact rfl

theorem setCadenceCommand_keepsOutside (x : Port) (args : List Word) (s : State) :
    (setCadenceCommand x args s).KeepsOutside s := by
  unfold setCadenceCommand
  dsimp only
  repeat' split
  any_goals exact trivial
  all_goals exact rfl

theorem startCadenceCommand_keepsOutside (x : Port) (args : List Word) (s : State) :
    (startCadenceCommand x args s).KeepsOutside s := by
  unfold startCadenceCommand
  dsimp only
  repeat' split
  any_goals exact trivial
  all_goals exact rfl

theorem stopCadenceCommand_keepsOutside (x : Port) (args : List Word) (s : State) :
    (stopCadenceCommand x args s).KeepsOutside s := by
  unfold stopCadenceCommand
  repeat' split
  any_goals exact trivial
  all_goals exact rfl

theorem tripAckCommand_keepsOutside (x : Port) (args : List Word) (s : State) :
    (tripAckCommand x args s).KeepsOutside s := by
  unfold tripAckCommand
  split
  · exact removeCauses_outside ..
  · trivial

theorem forceTripCommand_keepsOutside (x : Port) (args : List Word) (s : State) :
    (forceTripCommand x args s).KeepsOutside s := by
  unfold forceTripCommand
  split
  · exact addCauses_outside ..
  · trivial

theorem tripStatusCommand_keepsOutside (x : Port) (args : List Word) (s : State) :
    (tripStatusCommand x args s).KeepsOutside s := by
  unfold tripStatusCommand
  split
  · exact Reply.keepsOutside_self ..
  · trivial

/-! ### Every command -/

/-- Every command answers with a next state that has the same fields outside the blocks. -/
theorem exec_outside (i : Instr) (s : State) :
    ∃ t, exec i s = .next t ∧ t.outside = s.outside := by
  cases i with
  | powerOn tpol l => exact ⟨_, rfl, takeLevels_outside l (resetBlocks tpol s)⟩
  | pinReset tpol => exact ⟨_, rfl, rfl⟩
  | endOfTrimLoad => exact ⟨_, rfl, endOfTrimLoad_outside s⟩
  | frameError x ws b => exact ⟨_, rfl, atFrameEnd_outside s fun _ => rfl⟩
  | unknownCommand x c t a => exact ⟨_, rfl, atFrameEnd_outside s fun _ => rfl⟩
  | discardedFrameEnd x => exact ⟨_, rfl, discardedFrameEnd_outside x s⟩
  | openSession x t a => exact ⟨_, rfl, takeCommand_outside t s (openCommand_keepsOutside x a)⟩
  | closeSession x t a => exact ⟨_, rfl, takeCommand_outside t s (closeCommand_keepsOutside x a)⟩
  | renew x t a => exact ⟨_, rfl, takeCommand_outside t s (renewCommand_keepsOutside a)⟩
  | setLease x t a => exact ⟨_, rfl, takeCommand_outside t s (setLeaseCommand_keepsOutside x a)⟩
  | resetDevice x t a =>
    exact ⟨_, rfl, takeCommand_outside t s (resetDeviceCommand_keepsOutside x a)⟩
  | denyReset x t a => exact ⟨_, rfl, takeCommand_outside t s (denyResetCommand_keepsOutside x a)⟩
  | status x t a => exact ⟨_, rfl, takeCommand_outside t s (statusCommand_keepsOutside x a)⟩
  | ident x t a => exact ⟨_, rfl, takeCommand_outside t s (identCommand_keepsOutside x a)⟩
  | repeatLast x t a => exact ⟨_, rfl, takeCommand_outside t s (repeatCommand_keepsOutside a)⟩
  | ackEvents x t a => exact ⟨_, rfl, takeCommand_outside t s (ackEventsCommand_keepsOutside x a)⟩
  | setAlertMask x t a =>
    exact ⟨_, rfl, takeCommand_outside t s (setAlertMaskCommand_keepsOutside x a)⟩
  | claim x t a => exact ⟨_, rfl, takeCommand_outside t s (claimCommand_keepsOutside x a)⟩
  | release x t a => exact ⟨_, rfl, takeCommand_outside t s (releaseCommand_keepsOutside x a)⟩
  | setChannel x t a => exact ⟨_, rfl, takeCommand_outside t s (setChannelCommand_keepsOutside x a)⟩
  | getChannel x t a => exact ⟨_, rfl, takeCommand_outside t s (getChannelCommand_keepsOutside a)⟩
  | defineSequence x t a => exact ⟨_, rfl, takeCommand_outside t s (defineCommand_keepsOutside x a)⟩
  | deleteSequence x t a => exact ⟨_, rfl, takeCommand_outside t s (deleteCommand_keepsOutside x a)⟩
  | enable x t a => exact ⟨_, rfl, takeCommand_outside t s (enableCommand_keepsOutside x a)⟩
  | stop x t a => exact ⟨_, rfl, takeCommand_outside t s (stopCommand_keepsOutside x a)⟩
  | halt x t a => exact ⟨_, rfl, takeCommand_outside t s (haltCommand_keepsOutside x a)⟩
  | run x t a => exact ⟨_, rfl, takeCommand_outside t s (runCommand_keepsOutside x a)⟩
  | getSequence x t a => exact ⟨_, rfl, takeCommand_outside t s (getSequenceCommand_keepsOutside a)⟩
  | convertNow x t a => exact ⟨_, rfl, takeCommand_outside t s (convertNowCommand_keepsOutside x a)⟩
  | setTrigger x t a => exact ⟨_, rfl, takeCommand_outside t s (setTriggerCommand_keepsOutside x a)⟩
  | setCadence x t a => exact ⟨_, rfl, takeCommand_outside t s (setCadenceCommand_keepsOutside x a)⟩
  | startCadence x t a =>
    exact ⟨_, rfl, takeCommand_outside t s (startCadenceCommand_keepsOutside x a)⟩
  | stopCadence x t a =>
    exact ⟨_, rfl, takeCommand_outside t s (stopCadenceCommand_keepsOutside x a)⟩
  | readResults x t a =>
    exact ⟨_, rfl, takeCommand_outside t s (readResultsCommand_keepsOutside x a)⟩
  | flush x t a => exact ⟨_, rfl, takeCommand_outside t s (flushCommand_keepsOutside x a)⟩
  | mark x t a => exact ⟨_, rfl, takeCommand_outside t s (markCommand_keepsOutside x a)⟩
  | setWatermark x t a =>
    exact ⟨_, rfl, takeCommand_outside t s (setWatermarkCommand_keepsOutside x a)⟩
  | readSnapshot x t a =>
    exact ⟨_, rfl, takeCommand_outside t s (readSnapshotCommand_keepsOutside a)⟩
  | setMonitor x t a => exact ⟨_, rfl, takeCommand_outside t s (setMonitorCommand_keepsOutside x a)⟩
  | monitorOn x t a => exact ⟨_, rfl, takeCommand_outside t s (monitorOnCommand_keepsOutside x a)⟩
  | monitorOff x t a => exact ⟨_, rfl, takeCommand_outside t s (monitorOffCommand_keepsOutside x a)⟩
  | getMonitor x t a => exact ⟨_, rfl, takeCommand_outside t s (getMonitorCommand_keepsOutside a)⟩
  | tripAck x t a => exact ⟨_, rfl, takeCommand_outside t s (tripAckCommand_keepsOutside x a)⟩
  | forceTrip x t a => exact ⟨_, rfl, takeCommand_outside t s (forceTripCommand_keepsOutside x a)⟩
  | tripStatus x t a => exact ⟨_, rfl, takeCommand_outside t s (tripStatusCommand_keepsOutside x a)⟩
  | readTime x t a => exact ⟨_, rfl, takeCommand_outside t s (readTimeCommand_keepsOutside a)⟩
  | readSync x t a => exact ⟨_, rfl, takeCommand_outside t s (readSyncCommand_keepsOutside a)⟩
  | checkClock x t a => exact ⟨_, rfl, takeCommand_outside t s (checkClockCommand_keepsOutside x a)⟩
  | readClockCheck x t a =>
    exact ⟨_, rfl, takeCommand_outside t s (readClockCheckCommand_keepsOutside x a)⟩
  | lineTransition n l => exact ⟨_, rfl, lineTransition_outside n l s⟩
  | cadenceExpiry n => exact ⟨_, rfl, cadenceExpiry_outside n s⟩
  | tripinChange l => exact ⟨_, rfl, tripinChange_outside l s⟩
  | syncEdge l => exact ⟨_, rfl, syncEdge_outside l s⟩
  | refclkEdge => exact ⟨_, rfl, refclkEdge_outside s⟩
  | checkTickCountLimit => exact ⟨_, rfl, checkTickCountLimit_outside s⟩
  | settleExpiry => exact ⟨_, rfl, settleExpiry_outside s⟩
  | sampleCompletion raw => exact ⟨_, rfl, sampleCompletion_outside raw s⟩
  | leaseWarning x => exact ⟨_, rfl, leaseWarning_outside x s⟩
  | leaseExpiry x => exact ⟨_, rfl, leaseExpiry_outside x s⟩
  | consentWindowExpiry => exact ⟨_, rfl, consentWindowExpiry_outside s⟩
  | frameBegin x => exact ⟨_, rfl, frameBegin_outside x s⟩
  | resetnRelease l => exact ⟨_, rfl, resetnRelease_outside l s⟩

/-- Settles O2: every command is made of operations that write the part's blocks alone. -/
theorem commandsKeepQueue : Obligations.CommandsKeepQueue := by
  intro i s t h
  obtain ⟨u, hu, kept⟩ := exec_outside i s
  rw [hu] at h
  cases h
  exact State.outside_eq_iff.mp kept

end Sys2Proof.Machine
end
